-- ==== Sys2Proof/Word.lean ====
section
/-! DEFINITION. The widths of GLCORE's values (00_scope.md R5, R7): coordinates, indexes, bytes and
chunks, command and response words. -/

namespace Sys2Proof

/-- A byte of a coordinate, and a `TAG` element (00_scope.md R5). -/
abbrev U8 := BitVec 8
/-- A 16-bit chunk of an index: a partial tangle (00_scope.md R5). -/
abbrev U16 := BitVec 16
/-- A coordinate (00_scope.md R5, `COORD_W = 32`). -/
abbrev U32 := BitVec 32
/-- A curve index, a compressor value, a delta (00_scope.md R5, `INDEX_W = VALUE_W = 64`). -/
abbrev U64 := BitVec 64
/-- A command word: `{op, arg}` (30_encoding.md R81). -/
abbrev CommandWord := BitVec 72
/-- A response word: `{st, data}` (30_encoding.md R82). -/
abbrev ResponseWord := BitVec 68

end Sys2Proof
end

