-- ==== Sys2Proof/Syntax.lean ====
section
/-! DEFINITION. The 31 commands of GLCORE (30_encoding.md R86), one constructor per row of the opcode
map. A constructor's fields are the operands of the row's format (R83), each at the format's own
width, so the must-be-zero bits are no part of a command. -/

namespace Sys2Proof

/-- A command. "Instruction" means command in this hardware (00_scope.md R2). -/
inductive Instr where
  | zEnt (x y : U32)
  | zDet (t : U64)
  | hEnt (x y : U32)
  | hDet (t : U64)
  | bEnt (x y : U32)
  | bDet (t : U64)
  | cNew
  | cDet (t : U64)
  | kNew
  | kCap (hint : U64)
  | kPush (v : U64)
  | kDone
  | dStart
  | dNext
  | dHint
  | sLdTag (idx : U32)
  | sLdDisc (idx : U32)
  | sLdO16 (idx : U32)
  | sLdO32 (idx : U32)
  | sLdO64 (idx : U32)
  | sLenTag
  | sLenDisc
  | sLenO16
  | sLenO32
  | sLenO64
  | sAppTag (v : U8)
  | sAppDisc (v : BitVec 2)
  | sAppO16 (v : U16)
  | sAppO32 (v : U32)
  | sAppO64 (v : U64)
  | sRd (n : U8)
  deriving DecidableEq, Repr

/-- The mnemonic of a command (30_encoding.md R86). -/
def Instr.mnemonic : Instr → String
  | .zEnt _ _ => "Z.ENT"
  | .zDet _ => "Z.DET"
  | .hEnt _ _ => "H.ENT"
  | .hDet _ => "H.DET"
  | .bEnt _ _ => "B.ENT"
  | .bDet _ => "B.DET"
  | .cNew => "C.NEW"
  | .cDet _ => "C.DET"
  | .kNew => "K.NEW"
  | .kCap _ => "K.CAP"
  | .kPush _ => "K.PUSH"
  | .kDone => "K.DONE"
  | .dStart => "D.START"
  | .dNext => "D.NEXT"
  | .dHint => "D.HINT"
  | .sLdTag _ => "S.LD.TAG"
  | .sLdDisc _ => "S.LD.DISC"
  | .sLdO16 _ => "S.LD.O16"
  | .sLdO32 _ => "S.LD.O32"
  | .sLdO64 _ => "S.LD.O64"
  | .sLenTag => "S.LEN.TAG"
  | .sLenDisc => "S.LEN.DISC"
  | .sLenO16 => "S.LEN.O16"
  | .sLenO32 => "S.LEN.O32"
  | .sLenO64 => "S.LEN.O64"
  | .sAppTag _ => "S.APP.TAG"
  | .sAppDisc _ => "S.APP.DISC"
  | .sAppO16 _ => "S.APP.O16"
  | .sAppO32 _ => "S.APP.O32"
  | .sAppO64 _ => "S.APP.O64"
  | .sRd _ => "S.RD"

end Sys2Proof
end

