-- ==== Sys2Proof/Decode.lean ====
section
/-! DEFINITION. Decoding a command word (30_encoding.md R81, R83 to R89) and the encoder that writes
the word of a command from the same opcode map. Decoding depends on the word alone (R89). -/

namespace Sys2Proof

/-- Why a word is ILLEGAL (30_encoding.md R87). The block answers both alike. -/
inductive Reject where
  /-- The opcode is not in the opcode map (R86). -/
  | noSuchOpcode (op : U8)
  /-- A must-be-zero bit of the argument of the named command is 1 (R83). -/
  | mustBeZeroSet (mnemonic : String)
  deriving DecidableEq, Repr

/-- `op = cmd[71:64]` (30_encoding.md R81). -/
def cmdOp (cmd : CommandWord) : U8 := cmd.extractLsb' 64 8

/-- `arg = cmd[63:0]` (30_encoding.md R81). -/
def cmdArg (cmd : CommandWord) : U64 := cmd.extractLsb' 0 64

/-- Format P: `x = arg[63:32]` (30_encoding.md R83). -/
def argX (arg : U64) : U32 := arg.extractLsb' 32 32

/-- Format P: `y = arg[31:0]` (30_encoding.md R83). -/
def argY (arg : U64) : U32 := arg.extractLsb' 0 32

/-- Format I: `idx = arg[31:0]` (30_encoding.md R83). -/
def argIdx (arg : U64) : U32 := arg.extractLsb' 0 32

/-- Format R: `n = arg[7:0]` (30_encoding.md R83). -/
def argReg (arg : U64) : U8 := arg.extractLsb' 0 8

/-- The row's must-be-zero bits are checked before the word is the row's command
(30_encoding.md R84, R85). -/
def mustBeZero {w : Nat} (bits : BitVec w) (mnemonic : String) (i : Instr) : Except Reject Instr :=
  if bits = 0 then .ok i else .error (.mustBeZeroSet mnemonic)

/-- The decode algorithm (30_encoding.md R85): the row of the opcode, then its must-be-zero bits, then
the command with the fields of its format. Total on every 72-bit word. -/
def decode (cmd : CommandWord) : Except Reject Instr :=
  let arg := cmdArg cmd
  match (cmdOp cmd).toNat with
  | 0x00 => .ok (.zEnt (argX arg) (argY arg))
  | 0x01 => .ok (.zDet arg)
  | 0x10 => .ok (.hEnt (argX arg) (argY arg))
  | 0x11 => .ok (.hDet arg)
  | 0x20 => .ok (.bEnt (argX arg) (argY arg))
  | 0x21 => .ok (.bDet arg)
  | 0x30 => mustBeZero arg "C.NEW" .cNew
  | 0x31 => .ok (.cDet arg)
  | 0x40 => mustBeZero arg "K.NEW" .kNew
  | 0x41 => .ok (.kCap arg)
  | 0x42 => .ok (.kPush arg)
  | 0x43 => mustBeZero arg "K.DONE" .kDone
  | 0x50 => mustBeZero arg "D.START" .dStart
  | 0x51 => mustBeZero arg "D.NEXT" .dNext
  | 0x52 => mustBeZero arg "D.HINT" .dHint
  | 0x60 => mustBeZero (arg.extractLsb' 32 32) "S.LD.TAG" (.sLdTag (argIdx arg))
  | 0x61 => mustBeZero (arg.extractLsb' 32 32) "S.LD.DISC" (.sLdDisc (argIdx arg))
  | 0x62 => mustBeZero (arg.extractLsb' 32 32) "S.LD.O16" (.sLdO16 (argIdx arg))
  | 0x63 => mustBeZero (arg.extractLsb' 32 32) "S.LD.O32" (.sLdO32 (argIdx arg))
  | 0x64 => mustBeZero (arg.extractLsb' 32 32) "S.LD.O64" (.sLdO64 (argIdx arg))
  | 0x68 => mustBeZero arg "S.LEN.TAG" .sLenTag
  | 0x69 => mustBeZero arg "S.LEN.DISC" .sLenDisc
  | 0x6A => mustBeZero arg "S.LEN.O16" .sLenO16
  | 0x6B => mustBeZero arg "S.LEN.O32" .sLenO32
  | 0x6C => mustBeZero arg "S.LEN.O64" .sLenO64
  | 0x70 => mustBeZero (arg.extractLsb' 8 56) "S.APP.TAG" (.sAppTag (arg.extractLsb' 0 8))
  | 0x71 => mustBeZero (arg.extractLsb' 2 62) "S.APP.DISC" (.sAppDisc (arg.extractLsb' 0 2))
  | 0x72 => mustBeZero (arg.extractLsb' 16 48) "S.APP.O16" (.sAppO16 (arg.extractLsb' 0 16))
  | 0x73 => mustBeZero (arg.extractLsb' 32 32) "S.APP.O32" (.sAppO32 (arg.extractLsb' 0 32))
  | 0x74 => .ok (.sAppO64 arg)
  | 0x80 => mustBeZero (arg.extractLsb' 8 56) "S.RD" (.sRd (argReg arg))
  | _ => .error (.noSuchOpcode (cmdOp cmd))

/-- The command word of a command: the opcode of its row, its operands at their fields and zero in the
must-be-zero bits (30_encoding.md R83, R86). -/
def encode : Instr → CommandWord
  | .zEnt x y => 0x00#8 ++ (x ++ y)
  | .zDet t => 0x01#8 ++ t
  | .hEnt x y => 0x10#8 ++ (x ++ y)
  | .hDet t => 0x11#8 ++ t
  | .bEnt x y => 0x20#8 ++ (x ++ y)
  | .bDet t => 0x21#8 ++ t
  | .cNew => 0x30#8 ++ 0#64
  | .cDet t => 0x31#8 ++ t
  | .kNew => 0x40#8 ++ 0#64
  | .kCap t => 0x41#8 ++ t
  | .kPush t => 0x42#8 ++ t
  | .kDone => 0x43#8 ++ 0#64
  | .dStart => 0x50#8 ++ 0#64
  | .dNext => 0x51#8 ++ 0#64
  | .dHint => 0x52#8 ++ 0#64
  | .sLdTag idx => 0x60#8 ++ (0#32 ++ idx)
  | .sLdDisc idx => 0x61#8 ++ (0#32 ++ idx)
  | .sLdO16 idx => 0x62#8 ++ (0#32 ++ idx)
  | .sLdO32 idx => 0x63#8 ++ (0#32 ++ idx)
  | .sLdO64 idx => 0x64#8 ++ (0#32 ++ idx)
  | .sLenTag => 0x68#8 ++ 0#64
  | .sLenDisc => 0x69#8 ++ 0#64
  | .sLenO16 => 0x6A#8 ++ 0#64
  | .sLenO32 => 0x6B#8 ++ 0#64
  | .sLenO64 => 0x6C#8 ++ 0#64
  | .sAppTag v => 0x70#8 ++ (0#56 ++ v)
  | .sAppDisc v => 0x71#8 ++ (0#62 ++ v)
  | .sAppO16 v => 0x72#8 ++ (0#48 ++ v)
  | .sAppO32 v => 0x73#8 ++ (0#32 ++ v)
  | .sAppO64 v => 0x74#8 ++ v
  | .sRd n => 0x80#8 ++ (0#56 ++ n)

/-- The opcode of a command's row (30_encoding.md R86). -/
def Instr.opcode : Instr → U8
  | .zEnt _ _ => 0x00#8
  | .zDet _ => 0x01#8
  | .hEnt _ _ => 0x10#8
  | .hDet _ => 0x11#8
  | .bEnt _ _ => 0x20#8
  | .bDet _ => 0x21#8
  | .cNew => 0x30#8
  | .cDet _ => 0x31#8
  | .kNew => 0x40#8
  | .kCap _ => 0x41#8
  | .kPush _ => 0x42#8
  | .kDone => 0x43#8
  | .dStart => 0x50#8
  | .dNext => 0x51#8
  | .dHint => 0x52#8
  | .sLdTag _ => 0x60#8
  | .sLdDisc _ => 0x61#8
  | .sLdO16 _ => 0x62#8
  | .sLdO32 _ => 0x63#8
  | .sLdO64 _ => 0x64#8
  | .sLenTag => 0x68#8
  | .sLenDisc => 0x69#8
  | .sLenO16 => 0x6A#8
  | .sLenO32 => 0x6B#8
  | .sLenO64 => 0x6C#8
  | .sAppTag _ => 0x70#8
  | .sAppDisc _ => 0x71#8
  | .sAppO16 _ => 0x72#8
  | .sAppO32 _ => 0x73#8
  | .sAppO64 _ => 0x74#8
  | .sRd _ => 0x80#8

/-- The command word that the opcode table's number `w` of `nbits` bits stands for: one word, bit 0 its
least significant bit, every bit above `nbits` zero; none for more bits than a word has. -/
def tableWord (nbits w : Nat) : Option CommandWord :=
  if nbits ≤ 72 then some (BitVec.ofNat 72 (w % 2 ^ nbits)) else none

/-- What the decoder reads from the word `w` of the opcode table. -/
def decodeTableWord (nbits w : Nat) : Option Instr :=
  match tableWord nbits w with
  | none => none
  | some cmd =>
    match decode cmd with
    | .ok i => some i
    | .error _ => none

end Sys2Proof
end

