-- ==== Sys2Proof/Config.lean ====
section
/-! DEFINITION. What an implementation fixes: the five streams and their capacities `CAP[s]`
(00_scope.md R6, 10_state.md R30, R40), the identification constant (00_scope.md R7). The spec leaves
no value open, so there is no free value and no opaque constant. -/

namespace Sys2Proof

/-- The five streams, `s = 0 .. 4` in this order (10_state.md R30). -/
inductive Stream where
  | tag | disc | o16 | o32 | o64
  deriving DecidableEq, Repr

/-- The element width `W[s]` (46_streams_sysreg.md R240). -/
def Stream.width : Stream → Nat
  | .tag => 8
  | .disc => 2
  | .o16 => 16
  | .o32 => 32
  | .o64 => 64

/-- The capacities `CAP[0..4]`, read as bits 32:0 of system registers 0x10 to 0x14
(00_scope.md R6, 10_state.md R40). -/
structure Caps where
  tag : BitVec 33
  disc : BitVec 33
  o16 : BitVec 33
  o32 : BitVec 33
  o64 : BitVec 33
  deriving DecidableEq, Repr

/-- `CAP[s]`. -/
def Caps.get (c : Caps) : Stream → BitVec 33
  | .tag => c.tag
  | .disc => c.disc
  | .o16 => c.o16
  | .o32 => c.o32
  | .o64 => c.o64

/-- `CAP[s] = 2^32` for every `s`: the choice under which the block behaves as the source's growing
arrays do (00_scope.md R6). DESIGN CHOICE for the reset state, log entry 4; unsafe for a claim about a
run from reset, since a block may have smaller memories. -/
def Caps.full : Caps :=
  { tag := 0x100000000#33, disc := 0x100000000#33, o16 := 0x100000000#33,
    o32 := 0x100000000#33, o64 := 0x100000000#33 }

/-- The identification constant, ASCII "GLC1" and then 7 (00_scope.md R7, 10_state.md R39). -/
def idConstant : U64 := 0x474C433100000007#64

end Sys2Proof
end

