-- ==== Sys2Proof/Machine/State.lean ====
section
/-! DEFINITION. The state of GLCORE as plain data (10_state.md R20 to R46), its reset value (R44), and
the reasons a step of the host's machine can stop: there are none that any step uses, because every
command is total (00_scope.md R9). -/

namespace Sys2Proof.Machine

/-- Why the machine would stop with a fault. It has NO constructor: every command answers one response
and has a next state, for every state and every command word (00_scope.md R9), and the block never
halts by itself (R10). The spec's fatal condition is a state of the block, not a stop
(60_exceptions.md R277). Safe: nothing is hidden behind a fault. Log entry 13. -/
inductive Fault where
  deriving DecidableEq, Repr

/-- Why a command would have no meaning. -/
inductive Refusal where
  /-- A command with no meaning yet. Raised by a refused arm of `exec` only; there is none, so no step
  raises it. Safe. -/
  | notModelled (mnemonic : String)
  deriving DecidableEq, Repr

/-- An event at the block's inputs (30_encoding.md R80, 70_reset_and_hazards.md R300). -/
inductive Input where
  /-- The host puts this word on the command channel. -/
  | command (cmd : CommandWord)
  /-- The host asserts and releases reset. -/
  | reset
  deriving DecidableEq, Repr

/-- `PHASE` (10_state.md R29): `opened` is OPEN (0), `sealed` is SEALED (1). -/
inductive Phase where
  | opened
  | sealed
  deriving DecidableEq, Repr

/-- The statuses a response can carry (60_exceptions.md R271). Codes 8 to 15 are never produced, so
they have no constructor. -/
inductive Status where
  | ok | endSeq | illegal | phase | full | range | badStream | fatal
  deriving DecidableEq, Repr

/-- The five stream memories. A stream is the list of its `LEN[s]` valid elements, element 0 first, and
nothing else (10_state.md R30, R32). Log entry 5. -/
structure Memory where
  tag : List U8
  disc : List (BitVec 2)
  o16 : List U16
  o32 : List U32
  o64 : List U64
  deriving DecidableEq, Repr

/-- All five streams empty. -/
def Memory.empty : Memory := { tag := [], disc := [], o16 := [], o32 := [], o64 := [] }

/-- The state of the block, with the channels and the parameters that the host's form of a step has no
other place for. -/
structure State where
  /-- Input events still to come, in order. The model's own field, log entry 1. -/
  inputs : List Input
  /-- Response words produced so far, in order. The model's own field, log entry 2. -/
  responses : List ResponseWord
  /-- The open parameters `CAP[s]`, constants of the block. The model's own field, log entry 4. -/
  caps : Caps
  /-- `C_HI` (10_state.md R23). -/
  cHi : BitVec 48
  /-- `C_BX` (R24). -/
  cBx : U32
  /-- `C_BY` (R24). -/
  cBy : U32
  /-- `C_SWAP` (R25). -/
  cSwap : Bool
  /-- `C_FLIP` (R25). -/
  cFlip : Bool
  /-- `FAULTED` (R27). -/
  faulted : Bool
  /-- `FINFO` (R27). -/
  finfo : U64
  /-- `K_CUR` (R28). -/
  kCur : U64
  /-- `PHASE` (R29). -/
  phase : Phase
  /-- `TAG`, `DISC`, `O16`, `O32`, `O64` with `LEN[0..4]` (R30). -/
  mem : Memory
  /-- `D_ACT` (R33). -/
  dAct : Bool
  /-- `D_CUR` (R34). -/
  dCur : U64
  /-- `D_TP` (R35). -/
  dTp : BitVec 33
  /-- `D_DP` (R35). -/
  dDp : BitVec 33
  /-- `D_P16` (R35). -/
  dP16 : BitVec 33
  /-- `D_P32` (R35). -/
  dP32 : BitVec 33
  /-- `D_P64` (R35). -/
  dP64 : BitVec 33
  deriving DecidableEq, Repr

/-- The reset state of a block with the given capacities, its channels empty
(10_state.md R44, 70_reset_and_hazards.md R301). -/
def State.resetWith (caps : Caps) : State :=
  { inputs := [], responses := [], caps := caps,
    cHi := 0#48, cBx := 0#32, cBy := 0#32, cSwap := false, cFlip := false,
    faulted := false, finfo := 0#64, kCur := 0#64, phase := .opened, mem := Memory.empty,
    dAct := false, dCur := 0#64, dTp := 0#33, dDp := 0#33, dP16 := 0#33, dP32 := 0#33, dP64 := 0#33 }

/-- The machine right after reset. The capacities are the model's choice, log entry 4; every other value
is that of 10_state.md R44. -/
def State.reset : State := State.resetWith Caps.full

/-- The outcome of a command. `Fault` is empty and no meaning refuses, so it is always a next state. -/
abbrev Result := Host.Outcome State Fault Refusal

end Sys2Proof.Machine
end

