-- ==== Sys2Proof/Machine/Operands.lean ====
section
/-! DEFINITION. Bytes and chunks of values, coordinate pairs, stream elements as numbers
(00_scope.md section 6, 20_memory.md R61, R63, R66, 30_encoding.md R83, R84). -/

namespace Sys2Proof.Machine

/-- `byte(v, j) = v[8j+7 : 8j]` (00_scope.md section 6, 20_memory.md R63). -/
def byteOf (v : U32) (j : Nat) : U8 := v.extractLsb' (8 * j) 8

/-- `chunk(t, j) = t[16j+15 : 16j]` (00_scope.md section 6, 20_memory.md R63). -/
def chunkOf (t : U64) (j : Nat) : U16 := t.extractLsb' (16 * j) 16

/-- A byte as the field of a coordinate at byte position `j`. -/
def atByte (b : U8) (j : Nat) : U32 := b.setWidth 32 <<< (8 * j)

/-- A partial tangle as the field of an index at chunk position `j`. -/
def atChunk (p : U16) (j : Nat) : U64 := p.setWidth 64 <<< (16 * j)

/-- One bit as the field of a `w`-bit value at bit position `i`. -/
def atBit (w : Nat) (b : Bool) (i : Nat) : BitVec w := (BitVec.ofBool b).setWidth w <<< i

/-- `2^n - 1`: the mask of the low `n` bits of a coordinate, all 32 of them from `n = 32` on. -/
def lowMask (n : Nat) : U32 := (1#32 <<< n) - 1#32

/-- `{x, y}`: a coordinate pair in the data of a response (30_encoding.md R83). -/
def packPair (p : U32 × U32) : U64 := p.1 ++ p.2

/-- The prefix `t[63:16]` (10_state.md R23). -/
def prefixOf (t : U64) : BitVec 48 := t.extractLsb' 16 48

/-- The element width of `v` extended to 64 bits with zeros (20_memory.md R66). -/
def zext64 {w : Nat} (v : BitVec w) : U64 := v.setWidth 64

/-- The low `w` bits of `v`: the store of a value into an element it has been shown to fit
(20_memory.md R66). -/
def lowBits (w : Nat) (v : U64) : BitVec w := v.setWidth w

end Sys2Proof.Machine
end

