-- ==== Sys2Proof/Machine/Flags.lean ====
section
/-! DEFINITION. The three status flags, the response status codes and the words they are read in.
There are no arithmetic flags (10_state.md R37). -/

namespace Sys2Proof.Machine

/-- The code of a status, `st = rsp[67:64]` (60_exceptions.md R271). -/
def Status.code : Status → BitVec 4
  | .ok => 0#4
  | .endSeq => 1#4
  | .illegal => 2#4
  | .phase => 3#4
  | .full => 4#4
  | .range => 5#4
  | .badStream => 6#4
  | .fatal => 7#4

/-- The response word `{st, data}` (30_encoding.md R82). -/
def responseWord (st : Status) (data : U64) : ResponseWord := st.code ++ data

/-- `rsp[67:64]` (30_encoding.md R82). -/
def rspStatus (r : ResponseWord) : BitVec 4 := r.extractLsb' 64 4

/-- `rsp[63:0]` (30_encoding.md R82). -/
def rspData (r : ResponseWord) : U64 := r.extractLsb' 0 64

/-- `PHASE` as its bit: 0 is OPEN, 1 is SEALED (10_state.md R29). -/
def Phase.bit : Phase → Bool
  | .opened => false
  | .sealed => true

/-- System register 0x01 `STATUS`: `PHASE` in bit 0, `D_ACT` in bit 1, `FAULTED` in bit 2
(10_state.md R37, R39). -/
def statusRegister (s : State) : U64 :=
  atBit 64 s.phase.bit 0 ||| atBit 64 s.dAct 1 ||| atBit 64 s.faulted 2

/-- System register 0x05 `C_ROT`: `C_SWAP` in bit 0, `C_FLIP` in bit 1 (10_state.md R25, R39). -/
def rotRegister (s : State) : U64 :=
  atBit 64 s.cSwap 0 ||| atBit 64 s.cFlip 1

/-- The `fatal` output, equal to `FAULTED` at all times (60_exceptions.md R283). -/
def State.fatalOut (s : State) : Bool := s.faulted

end Sys2Proof.Machine
end

