-- ==== Sys2Proof/WellFormed.lean ====
section
/-! DEFINITION. What is well formed: a command word (30_encoding.md R85, by the `mask` and `match`
columns of the opcode map of R86) and a set of capacities (00_scope.md R6). Every term of `Instr` is a
well-formed command, because each operand has its format's own width. The rows here are written apart
from `Decode.lean`, so that the two can be compared. -/

namespace Sys2Proof

/-- A row of the opcode map (30_encoding.md R86). -/
structure OpcodeRow where
  mnemonic : String
  mask : CommandWord
  pattern : CommandWord
  deriving DecidableEq, Repr

/-- `cmd and mask = match` (30_encoding.md R85). -/
def OpcodeRow.accepts (r : OpcodeRow) (cmd : CommandWord) : Bool :=
  cmd &&& r.mask == r.pattern

/-- The opcode map: 31 rows (30_encoding.md R86). -/
def opcodeMap : List OpcodeRow :=
  [ ⟨"Z.ENT", 0xFF0000000000000000#72, 0x000000000000000000#72⟩,
    ⟨"Z.DET", 0xFF0000000000000000#72, 0x010000000000000000#72⟩,
    ⟨"H.ENT", 0xFF0000000000000000#72, 0x100000000000000000#72⟩,
    ⟨"H.DET", 0xFF0000000000000000#72, 0x110000000000000000#72⟩,
    ⟨"B.ENT", 0xFF0000000000000000#72, 0x200000000000000000#72⟩,
    ⟨"B.DET", 0xFF0000000000000000#72, 0x210000000000000000#72⟩,
    ⟨"C.NEW", 0xFFFFFFFFFFFFFFFFFF#72, 0x300000000000000000#72⟩,
    ⟨"C.DET", 0xFF0000000000000000#72, 0x310000000000000000#72⟩,
    ⟨"K.NEW", 0xFFFFFFFFFFFFFFFFFF#72, 0x400000000000000000#72⟩,
    ⟨"K.CAP", 0xFF0000000000000000#72, 0x410000000000000000#72⟩,
    ⟨"K.PUSH", 0xFF0000000000000000#72, 0x420000000000000000#72⟩,
    ⟨"K.DONE", 0xFFFFFFFFFFFFFFFFFF#72, 0x430000000000000000#72⟩,
    ⟨"D.START", 0xFFFFFFFFFFFFFFFFFF#72, 0x500000000000000000#72⟩,
    ⟨"D.NEXT", 0xFFFFFFFFFFFFFFFFFF#72, 0x510000000000000000#72⟩,
    ⟨"D.HINT", 0xFFFFFFFFFFFFFFFFFF#72, 0x520000000000000000#72⟩,
    ⟨"S.LD.TAG", 0xFFFFFFFFFF00000000#72, 0x600000000000000000#72⟩,
    ⟨"S.LD.DISC", 0xFFFFFFFFFF00000000#72, 0x610000000000000000#72⟩,
    ⟨"S.LD.O16", 0xFFFFFFFFFF00000000#72, 0x620000000000000000#72⟩,
    ⟨"S.LD.O32", 0xFFFFFFFFFF00000000#72, 0x630000000000000000#72⟩,
    ⟨"S.LD.O64", 0xFFFFFFFFFF00000000#72, 0x640000000000000000#72⟩,
    ⟨"S.LEN.TAG", 0xFFFFFFFFFFFFFFFFFF#72, 0x680000000000000000#72⟩,
    ⟨"S.LEN.DISC", 0xFFFFFFFFFFFFFFFFFF#72, 0x690000000000000000#72⟩,
    ⟨"S.LEN.O16", 0xFFFFFFFFFFFFFFFFFF#72, 0x6A0000000000000000#72⟩,
    ⟨"S.LEN.O32", 0xFFFFFFFFFFFFFFFFFF#72, 0x6B0000000000000000#72⟩,
    ⟨"S.LEN.O64", 0xFFFFFFFFFFFFFFFFFF#72, 0x6C0000000000000000#72⟩,
    ⟨"S.APP.TAG", 0xFFFFFFFFFFFFFFFF00#72, 0x700000000000000000#72⟩,
    ⟨"S.APP.DISC", 0xFFFFFFFFFFFFFFFFFC#72, 0x710000000000000000#72⟩,
    ⟨"S.APP.O16", 0xFFFFFFFFFFFFFF0000#72, 0x720000000000000000#72⟩,
    ⟨"S.APP.O32", 0xFFFFFFFFFF00000000#72, 0x730000000000000000#72⟩,
    ⟨"S.APP.O64", 0xFF0000000000000000#72, 0x740000000000000000#72⟩,
    ⟨"S.RD", 0xFFFFFFFFFFFFFFFF00#72, 0x800000000000000000#72⟩ ]

/-- A word is a command when a row of the map accepts it; every other word is ILLEGAL
(30_encoding.md R85, R87). -/
def wordOk (cmd : CommandWord) : Bool :=
  opcodeMap.any fun r => r.accepts cmd

/-- `1 <= CAP[s] <= 2^32` (00_scope.md R6). -/
def capOk (c : BitVec 33) : Bool :=
  decide (1 ≤ c.toNat) && decide (c.toNat ≤ 2 ^ 32)

/-- The constraint on the open parameters, for all five streams (00_scope.md R6). -/
def Caps.ok (c : Caps) : Bool :=
  capOk c.tag && capOk c.disc && capOk c.o16 && capOk c.o32 && capOk c.o64

end Sys2Proof
end

