-- ==== Sys2Proof/Machine/Ops.lean ====
section
/-! DEFINITION. The named operations every meaning is made of: the response, the fatal condition, the
checks of 60_exceptions.md R279, access to the stream memories, the cursors, reset. -/

namespace Sys2Proof.Machine

/-! ### The response and the fatal condition -/

/-- The state with one more response word on the response channel (30_encoding.md R80, R82). -/
def State.answer (s : State) (st : Status) (data : U64) : State :=
  { s with responses := s.responses ++ [responseWord st data] }

/-- `respond(ST, d)` ends the command (00_scope.md section 6). -/
def respond (st : Status) (data : U64) (s : State) : Result :=
  .next (s.answer st data)

/-- What the fatal condition leaves: `FAULTED <- 1; FINFO <- info` and nothing else
(10_state.md R27, 60_exceptions.md R277). -/
def State.enterFault (s : State) (info : U64) : State :=
  { s with faulted := true, finfo := info }

/-- `raise Fatal(info)` (00_scope.md section 6, 43_cached.md R186, 60_exceptions.md R277): the one
exception of the block. It saves `info` in `FINFO`, sets `FAULTED` and answers (FATAL, info); there is
no control transfer (60_exceptions.md R281). -/
def raiseFatal (info : U64) (s : State) : Result :=
  respond .fatal info (s.enterFault info)

/-- The way back from the fatal condition and from every other state: reset
(60_exceptions.md R282, 70_reset_and_hazards.md R300, R301). Every element of the block takes its reset
value. The capacities are constants of the block (10_state.md R46), and the channels are outside it:
responses already produced and events still to come stay. Log entry 10. -/
def State.afterReset (s : State) : State :=
  { State.resetWith s.caps with inputs := s.inputs, responses := s.responses }

/-! ### The checks, in the order of 60_exceptions.md R279 -/

/-- Check (2): while `FAULTED = 1` a legal command answers (FATAL, 0) and changes nothing
(60_exceptions.md R277, R279). Every command but S.RD stands behind it. -/
def unlessFaulted (run : Result) (s : State) : Result :=
  if s.faulted then respond .fatal 0#64 s else run

/-- Check (3): the command needs `PHASE = OPEN` (60_exceptions.md R274). -/
def ifOpen (run : Result) (s : State) : Result :=
  if s.phase = .opened then run else respond .phase 0#64 s

/-- Check (3): the command needs `PHASE = SEALED` (60_exceptions.md R274). -/
def ifSealed (run : Result) (s : State) : Result :=
  if s.phase = .sealed then run else respond .phase 0#64 s

/-- Check (3): the command needs `D_ACT = 1` (60_exceptions.md R274). -/
def ifActive (run : Result) (s : State) : Result :=
  if s.dAct then run else respond .phase 0#64 s

/-- A command word that is no command: (ILLEGAL, 0), nothing changes (30_encoding.md R87,
60_exceptions.md R273). -/
def respondIllegal (s : State) : Result := respond .illegal 0#64 s

/-! ### The stream memories -/

/-- `LEN[s]` (10_state.md R30). -/
def Memory.len (m : Memory) : Stream → Nat
  | .tag => m.tag.length
  | .disc => m.disc.length
  | .o16 => m.o16.length
  | .o32 => m.o32.length
  | .o64 => m.o64.length

/-- `zext_64(MemRead(s, i))`; nothing at or beyond `LEN[s]` (00_scope.md section 6,
10_state.md R32, 20_memory.md R66). -/
def Memory.read (m : Memory) (st : Stream) (i : Nat) : Option U64 :=
  match st with
  | .tag => m.tag[i]?.map zext64
  | .disc => m.disc[i]?.map zext64
  | .o16 => m.o16[i]?.map zext64
  | .o32 => m.o32[i]?.map zext64
  | .o64 => m.o64[i]?.map zext64

/-- `Append(s, v)`: the element `v` of the stream's width at index `LEN[s]`, and `LEN[s]` one more
(00_scope.md section 6, 20_memory.md R71). The callers have shown that `v` fits. -/
def Memory.append (m : Memory) (st : Stream) (v : U64) : Memory :=
  match st with
  | .tag => { m with tag := m.tag ++ [lowBits 8 v] }
  | .disc => { m with disc := m.disc ++ [lowBits 2 v] }
  | .o16 => { m with o16 := m.o16 ++ [lowBits 16 v] }
  | .o32 => { m with o32 := m.o32 ++ [lowBits 32 v] }
  | .o64 => { m with o64 := m.o64 ++ [lowBits 64 v] }

/-- The memory's form under given capacities: `LEN[s] <= CAP[s]` for every stream (10_state.md R30).
A list of elements has no other way to be out of form (log entry 5). -/
def Memory.wf (c : Caps) (m : Memory) : Bool :=
  decide (m.len .tag ≤ c.tag.toNat) && decide (m.len .disc ≤ c.disc.toNat) &&
  decide (m.len .o16 ≤ c.o16.toNat) && decide (m.len .o32 ≤ c.o32.toNat) &&
  decide (m.len .o64 ≤ c.o64.toNat)

/-- A stream is full when `LEN[s] = CAP[s]` (60_exceptions.md R275). `LEN > CAP`, which no run reaches,
counts as full too (DESIGN CHOICE, log entry 7; safe). -/
def State.isFull (s : State) (st : Stream) : Bool :=
  decide ((s.caps.get st).toNat ≤ s.mem.len st)

/-- `Append` on the state. -/
def State.append (s : State) (st : Stream) (v : U64) : State :=
  { s with mem := s.mem.append st v }

/-! ### The cursors -/

/-- The cursor of the decompressor into a stream (10_state.md R35). -/
def State.cursor (s : State) : Stream → BitVec 33
  | .tag => s.dTp
  | .disc => s.dDp
  | .o16 => s.dP16
  | .o32 => s.dP32
  | .o64 => s.dP64

/-- `MemRead(s, cursor)`. A cursor at `LEN[s]`, or beyond it, which no run reaches, finds nothing
(45_decompressor.md R224, DESIGN CHOICE beyond it, log entry 6; safe). -/
def State.readAtCursor (s : State) (st : Stream) : Option U64 :=
  s.mem.read st (s.cursor st).toNat

/-- The cursor of a stream goes on by 1 (20_memory.md R71). -/
def State.advance (s : State) (st : Stream) : State :=
  match st with
  | .tag => { s with dTp := s.dTp + 1#33 }
  | .disc => { s with dDp := s.dDp + 1#33 }
  | .o16 => { s with dP16 := s.dP16 + 1#33 }
  | .o32 => { s with dP32 := s.dP32 + 1#33 }
  | .o64 => { s with dP64 := s.dP64 + 1#33 }

/-! ### Taking the next input event -/

/-- The word of a command event, as the opcode table numbers its bits: one 72-bit word
(30_encoding.md R81). -/
def commandOfTable (nbits w : Nat) : Input :=
  .command (BitVec.ofNat 72 (w % 2 ^ nbits))

end Sys2Proof.Machine
end

