-- ==== Sys2Proof/Machine/BitRef.lean ====
section
/-! DEFINITION. The bit-reference Hilbert transform (40_bitref.md R110 to R119) and the commands B.ENT
and B.DET. It defines the Hilbert mapping of the block. -/

namespace Sys2Proof.Machine

/-- The quadrant code `(3*rx) xor ry` (40_bitref.md R111). -/
def quadCode (rx ry : Bool) : BitVec 2 :=
  (if rx then 3#2 else 0#2) ^^^ (if ry then 1#2 else 0#2)

/-- `rx = q[1]` (40_bitref.md R111). -/
def quadX (q : BitVec 2) : Bool := q.getLsbD 1

/-- `ry = q[0] xor q[1]` (40_bitref.md R111). -/
def quadY (q : BitVec 2) : Bool := q.getLsbD 0 ^^ q.getLsbD 1

/-- The sub-quadrant transform `bit_rotate(k, (a, b), rx, ry)`, for `a, b < 2^k` (40_bitref.md R112,
with the swap of 90_conflicts.md C1). -/
def bitRotate (k : Nat) (p : U32 × U32) (rx ry : Bool) : U32 × U32 :=
  match ry, rx with
  | true, _ => p
  | false, false => (p.2, p.1)
  | false, true => (lowMask k - p.2, lowMask k - p.1)

/-- The loop of `bit_entangle` for bit positions `k-1` down to 0: the codes of those positions, from the
low `k` bits of `x` and `y` (40_bitref.md R113). -/
def bitEntangleFrom : Nat → U32 → U32 → U64
  | 0, _, _ => 0#64
  | k + 1, x, y =>
    let rx := x.getLsbD k
    let ry := y.getLsbD k
    let p := bitRotate k (x &&& lowMask k, y &&& lowMask k) rx ry
    ((quadCode rx ry).setWidth 64 <<< (2 * k)) ||| bitEntangleFrom k p.1 p.2

/-- `bit_entangle` (40_bitref.md R113). -/
def bitEntangle (x y : U32) : U64 := bitEntangleFrom 32 x y

/-- The loop of `bit_detangle` after the steps 0 to `k-1`: the low `k` bits of the pair
(40_bitref.md R114). -/
def bitDetangleTo : Nat → U64 → U32 × U32
  | 0, _ => (0#32, 0#32)
  | k + 1, t =>
    let q := t.extractLsb' (2 * k) 2
    let rx := quadX q
    let ry := quadY q
    let p := bitRotate k (bitDetangleTo k t) rx ry
    (p.1 + atBit 32 rx k, p.2 + atBit 32 ry k)

/-- `bit_detangle` (40_bitref.md R114). -/
def bitDetangle (t : U64) : U32 × U32 := bitDetangleTo 32 t

/-- B.ENT (40_bitref.md R115). -/
def execBEnt (x y : U32) (s : State) : Result :=
  unlessFaulted (respond .ok (bitEntangle x y) s) s

/-- B.DET (40_bitref.md R116). -/
def execBDet (t : U64) (s : State) : Result :=
  unlessFaulted (respond .ok (packPair (bitDetangle t)) s) s

end Sys2Proof.Machine
end

