-- ==== Sys2Proof/Machine/Tables.lean ====
section
/-! DEFINITION. The five tables (10_state.md R21, R22): constants, so total functions and no part of
State. The units take them as an argument, as 93_implementation_defined.md U3 allows, and the block's own
tables are `glcoreTables`. A table indexed by a byte pair is indexed by the pair itself, which
20_memory.md R61 allows since no command exposes the key. Log entry 11. -/

namespace Sys2Proof.Machine

/-- A set of table contents (10_state.md R22). -/
structure Tables where
  zent : U8 → U8 → U16
  zdet : U16 → U8 × U8
  hent : U8 → U8 → U16
  hdet : U16 → U8 × U8
  hrot : U8 → U8 → BitVec 4

/-- The low `n` bits of two bytes interleaved, x into even and y into odd positions (41_zorder.md R131). -/
def interleaveTo : Nat → U8 → U8 → U16
  | 0, _, _ => 0#16
  | i + 1, xb, yb =>
    interleaveTo i xb yb ||| atBit 16 (xb.getLsbD i) (2 * i) ||| atBit 16 (yb.getLsbD i) (2 * i + 1)

/-- `ZENT_T` (41_zorder.md R131). -/
def zentT (xb yb : U8) : U16 := interleaveTo 8 xb yb

/-- The low `n` bits of the byte whose bit `i` is bit `2i + odd` of `z` (41_zorder.md R132). -/
def deinterleaveTo : Nat → Nat → U16 → U8
  | 0, _, _ => 0#8
  | i + 1, odd, z => deinterleaveTo i odd z ||| atBit 8 (z.getLsbD (2 * i + odd)) i

/-- `ZDET_T` (41_zorder.md R132). -/
def zdetT (z : U16) : U8 × U8 := (deinterleaveTo 8 0 z, deinterleaveTo 8 1 z)

/-- The probe tangle `E(xb, yb) = bit_entangle(xb * 2^24, yb * 2^24 + 2^23)` (42_hilbert.md section 2). -/
def probeTangle (xb yb : U8) : U64 :=
  bitEntangle (atByte xb 3) (atByte yb 3 + 0x800000#32)

/-- `HENT_T[xb, yb] = E(xb, yb)[63:48]` (42_hilbert.md R151). -/
def hentT (xb yb : U8) : U16 := (probeTangle xb yb).extractLsb' 48 16

/-- `HROT_T[xb, yb] = E(xb, yb)[47:44]` (42_hilbert.md R153). -/
def hrotT (xb yb : U8) : BitVec 4 := (probeTangle xb yb).extractLsb' 44 4

/-- `HDET_T[p]`, the unique byte pair whose `HENT_T` entry is `p` (42_hilbert.md R152), computed as the
top bytes of the reference detangle of an index whose top chunk is `p`. DEDUCED from 40_bitref.md R117
and R118; log entry 9. -/
def hdetT (p : U16) : U8 × U8 :=
  let xy := bitDetangle (atChunk p 3)
  (byteOf xy.1 3, byteOf xy.2 3)

/-- The tables of the block (10_state.md R22). -/
def glcoreTables : Tables :=
  { zent := zentT, zdet := zdetT, hent := hentT, hdet := hdetT, hrot := hrotT }

end Sys2Proof.Machine
end

