-- ==== Sys2Proof/Machine/Hilbert.lean ====
section
/-! DEFINITION. The table-driven Hilbert tangler: H.ENT and H.DET (42_hilbert.md R150 to R165). -/

namespace Sys2Proof.Machine

/-- `swap(r) = r[1]` (42_hilbert.md R154). -/
def rotSwap (r : BitVec 4) : Bool := r.getLsbD 1

/-- `reflect(r) = (r = 12 or r = 6)` (42_hilbert.md R154). -/
def rotReflect (r : BitVec 4) : Bool := r == 12#4 || r == 6#4

/-- Exchange the two fields of a pair when the flag is set. -/
def swapIf {α : Type} (sw : Bool) (p : α × α) : α × α := if sw then (p.2, p.1) else p

/-- Replace both fields by `m - field` when the flag is set. -/
def reflectIf {w : Nat} (fl : Bool) (m : BitVec w) (p : BitVec w × BitVec w) : BitVec w × BitVec w :=
  if fl then (m - p.1, m - p.2) else p

/-- The walk of H.ENT over the bytes `n-1` down to 0 of the current coordinates, with the index
accumulated so far (42_hilbert.md R156). -/
def hEntangleFrom (T : Tables) : Nat → U32 × U32 → U64 → U64
  | 0, _, r => r
  | n + 1, p, r =>
    let xb := byteOf p.1 n
    let yb := byteOf p.2 n
    let c := T.hrot xb yb
    hEntangleFrom T n (reflectIf (rotReflect c) 0xFFFFFFFF#32 (swapIf (rotSwap c) p))
      ((r <<< 16) ||| (T.hent xb yb).setWidth 64)

/-- The Hilbert `entangle` by tables (42_hilbert.md R156). -/
def hEntangle (T : Tables) (x y : U32) : U64 := hEntangleFrom T 4 (x, y) 0#64

/-- The walk of H.DET after the chunks 0 to `d-1`: the low `8d` bits of the pair (42_hilbert.md R157,
in the order of 90_conflicts.md C2). -/
def hDetangleTo (T : Tables) : Nat → U64 → U32 × U32
  | 0, _ => (0#32, 0#32)
  | d + 1, t =>
    let b := T.hdet (chunkOf t d)
    let c := T.hrot b.1 b.2
    let p := swapIf (rotSwap c) (reflectIf (rotReflect c) (lowMask (8 * d)) (hDetangleTo T d t))
    (p.1 + atByte b.1 d, p.2 + atByte b.2 d)

/-- The Hilbert `detangle` by tables (42_hilbert.md R157). -/
def hDetangle (T : Tables) (t : U64) : U32 × U32 := hDetangleTo T 4 t

/-- H.ENT (42_hilbert.md R156). -/
def execHEnt (x y : U32) (s : State) : Result :=
  unlessFaulted (respond .ok (hEntangle glcoreTables x y) s) s

/-- H.DET (42_hilbert.md R157). -/
def execHDet (t : U64) (s : State) : Result :=
  unlessFaulted (respond .ok (packPair (hDetangle glcoreTables t)) s) s

end Sys2Proof.Machine
end

