-- ==== Sys2Proof/Machine/Cached.lean ====
section
/-! DEFINITION. The cached incremental Hilbert decoder: C.NEW and C.DET (43_cached.md R180 to R191). -/

namespace Sys2Proof.Machine

/-- The classification of a decoded sentinel's low bytes as `(C_SWAP, C_FLIP)`; none for any pair but
the four patterns (43_cached.md R185, 90_conflicts.md C3). -/
def classify (a b : U8) : Option (Bool × Bool) :=
  if a = 0x0F#8 ∧ b = 0x00#8 then some (false, false)
  else if a = 0x00#8 ∧ b = 0x0F#8 then some (true, false)
  else if a = 0xF0#8 ∧ b = 0xFF#8 then some (false, true)
  else if a = 0xFF#8 ∧ b = 0xF0#8 then some (true, true)
  else none

/-- The sentinel `{hi, 0x00FF}` (43_cached.md R184). -/
def sentinelOf (hi : BitVec 48) : U64 := hi ++ 0x00FF#16

/-- `v and 0xFFFFFF00` (43_cached.md R184). -/
def baseOf (v : U32) : U32 := v &&& 0xFFFFFF00#32

/-- The state with the five cache registers written, all together (43_cached.md R182). -/
def State.setCache (s : State) (hi : BitVec 48) (bx by' : U32) (sw fl : Bool) : State :=
  { s with cHi := hi, cBx := bx, cBy := by', cSwap := sw, cFlip := fl }

/-- The miss procedure for a prefix (43_cached.md R184, R185): the state with the cache of that prefix,
or the `FINFO` word `{hi, a, b}` of the fatal condition (R186). -/
def missProc (T : Tables) (hi : BitVec 48) (s : State) : Except U64 State :=
  let xy := hDetangle T (sentinelOf hi)
  match classify (byteOf xy.1 0) (byteOf xy.2 0) with
  | some f => .ok (s.setCache hi (baseOf xy.1) (baseOf xy.2) f.1 f.2)
  | none => .error (hi ++ (byteOf xy.1 0 ++ byteOf xy.2 0))

/-- The pair C.DET answers with the cache registers as they stand: reflect the raw byte pair, swap it,
add it to the bases (43_cached.md R187). -/
def applyCache (T : Tables) (lo : U16) (s : State) : U32 × U32 :=
  let b := swapIf s.cSwap (reflectIf s.cFlip 255#8 (T.hdet lo))
  (s.cBx + b.1.setWidth 32, s.cBy + b.2.setWidth 32)

/-- C.DET over given tables (43_cached.md R182, R183): on a hit nothing is written; on a miss the cache
is refilled or the fatal condition is raised. -/
def cDetangle (T : Tables) (t : U64) (s : State) : Result :=
  if prefixOf t = s.cHi then
    respond .ok (packPair (applyCache T (chunkOf t 0) s)) s
  else
    match missProc T (prefixOf t) s with
    | .ok s' => respond .ok (packPair (applyCache T (chunkOf t 0) s')) s'
    | .error info => raiseFatal info s

/-- C.NEW: the cache registers to their reset values (43_cached.md R181). -/
def execCNew (s : State) : Result :=
  unlessFaulted (respond .ok 0#64 (s.setCache 0#48 0#32 0#32 false false)) s

/-- C.DET (43_cached.md R182). -/
def execCDet (t : U64) (s : State) : Result :=
  unlessFaulted (cDetangle glcoreTables t s) s

end Sys2Proof.Machine
end

