-- ==== Sys2Proof/Machine/Compressor.lean ====
section
/-! DEFINITION. The delta compressor: K.NEW, K.CAP, K.PUSH and K.DONE (44_compressor.md R200 to R208). -/

namespace Sys2Proof.Machine

/-- A new compressor: `K_CUR` 0, the five streams empty, OPEN, no decompressor
(44_compressor.md R202). -/
def State.newCompressor (s : State) : State :=
  { s with kCur := 0#64, mem := Memory.empty, phase := .opened, dAct := false }

/-- How a delta is stored: as the tag byte itself, or as an element of the overflow stream with
discriminator 0, 1 or 2 (44_compressor.md R201). -/
inductive Tier where
  | direct | w16 | w32 | w64
  deriving DecidableEq, Repr

/-- `tier(delta)` (44_compressor.md R201). -/
def tierOf (delta : U64) : Tier :=
  if 1 ≤ delta.toNat ∧ delta.toNat ≤ 255 then .direct
  else if delta.toNat < 2 ^ 16 then .w16
  else if delta.toNat < 2 ^ 32 then .w32
  else .w64

/-- The discriminator code of an overflow tier and its stream; none for the direct tier
(10_state.md R30, 44_compressor.md R201). -/
def Tier.overflow : Tier → Option (U64 × Stream)
  | .direct => none
  | .w16 => some (0#64, .o16)
  | .w32 => some (1#64, .o32)
  | .w64 => some (2#64, .o64)

/-- The state with `K_CUR` written. -/
def State.setKCur (s : State) (v : U64) : State := { s with kCur := v }

/-- The body of K.PUSH in phase OPEN (44_compressor.md R204): the capacities of the streams this push
needs, then all its appends and `K_CUR`, or FULL and nothing. -/
def pushDelta (v : U64) (s : State) : Result :=
  let delta := v - s.kCur
  match (tierOf delta).overflow with
  | none =>
    if s.isFull .tag then respond .full 0#64 s
    else respond .ok 0#64 ((s.append .tag delta).setKCur v)
  | some (w, st) =>
    if s.isFull .tag || s.isFull .disc || s.isFull st then respond .full 0#64 s
    else respond .ok 0#64 ((((s.append .tag 0#64).append .disc w).append st delta).setKCur v)

/-- The state with `PHASE` SEALED. -/
def State.sealPhase (s : State) : State := { s with phase := .sealed }

/-- K.NEW (44_compressor.md R202). -/
def execKNew (s : State) : Result :=
  unlessFaulted (respond .ok 0#64 s.newCompressor) s

/-- K.CAP: K.NEW, the hint read and ignored (44_compressor.md R203). -/
def execKCap (_hint : U64) (s : State) : Result :=
  unlessFaulted (respond .ok 0#64 s.newCompressor) s

/-- K.PUSH (44_compressor.md R204). -/
def execKPush (v : U64) (s : State) : Result :=
  unlessFaulted (ifOpen (pushDelta v s) s) s

/-- K.DONE (44_compressor.md R205). -/
def execKDone (s : State) : Result :=
  unlessFaulted (ifOpen (respond .ok 0#64 s.sealPhase) s) s

end Sys2Proof.Machine
end

