-- ==== Sys2Proof/Machine/Decompressor.lean ====
section
/-! DEFINITION. The delta decompressor: D.START, D.NEXT and D.HINT (45_decompressor.md R220 to R227). -/

namespace Sys2Proof.Machine

/-- A fresh decompressor at the front of the streams (45_decompressor.md R221). -/
def State.startDecompressor (s : State) : State :=
  { s with dAct := true, dCur := 0#64,
           dTp := 0#33, dDp := 0#33, dP16 := 0#33, dP32 := 0#33, dP64 := 0#33 }

/-- The state with the decompressor ended: `D_ACT <- 0` (45_decompressor.md R224). -/
def State.endDecompressor (s : State) : State := { s with dAct := false }

/-- `D_CUR <- D_CUR + delta`, modulo `2^64` (45_decompressor.md R222). -/
def State.addDelta (s : State) (delta : U64) : State := { s with dCur := s.dCur + delta }

/-- The overflow stream a discriminator element names; none for the reserved code 3
(10_state.md R30). -/
def overflowOf (w : U64) : Option Stream :=
  if w = 0#64 then some .o16
  else if w = 1#64 then some .o32
  else if w = 2#64 then some .o64
  else none

/-- `bad` of D.NEXT: BADSTREAM, `D_ACT <- 0` and nothing else (45_decompressor.md R224,
60_exceptions.md R278). -/
def badStream (s : State) : Result := respond .badStream 0#64 s.endDecompressor

/-- D.NEXT on a zero tag: the discriminator, then the element of the overflow stream it names, with the
BADSTREAM tests (a), (b), (c) in this order (45_decompressor.md R222, R224). -/
def nextOverflow (s : State) : Result :=
  match s.readAtCursor .disc with
  | none => badStream s
  | some w =>
    match overflowOf w with
    | none => badStream s
    | some st =>
      match s.readAtCursor st with
      | none => badStream s
      | some delta =>
        respond .ok (s.dCur + delta)
          ((((s.addDelta delta).advance .tag).advance .disc).advance st)

/-- D.NEXT with an active decompressor (45_decompressor.md R222, R223). -/
def nextValue (s : State) : Result :=
  match s.readAtCursor .tag with
  | none => respond .endSeq 0#64 s
  | some tag =>
    if tag = 0#64 then nextOverflow s
    else respond .ok (s.dCur + tag) ((s.addDelta tag).advance .tag)

/-- `LEN[0] - D_TP` (45_decompressor.md R225). `D_TP > LEN[0]`, which no run reaches, leaves 0
(DESIGN CHOICE, log entry 6; safe). -/
def State.remaining (s : State) : Nat := s.mem.len .tag - s.dTp.toNat

/-- D.START (45_decompressor.md R221). -/
def execDStart (s : State) : Result :=
  unlessFaulted (ifSealed (respond .ok 0#64 s.startDecompressor) s) s

/-- D.NEXT (45_decompressor.md R222). -/
def execDNext (s : State) : Result :=
  unlessFaulted (ifActive (nextValue s) s) s

/-- D.HINT (45_decompressor.md R225). -/
def execDHint (s : State) : Result :=
  unlessFaulted (ifActive (respond .ok (BitVec.ofNat 64 s.remaining) s) s) s

end Sys2Proof.Machine
end

