-- ==== Sys2Proof/Machine/Streams.lean ====
section
/-! DEFINITION. Stream access: S.LD.s, S.LEN.s and S.APP.s for the five streams
(46_streams_sysreg.md R240 to R243). -/

namespace Sys2Proof.Machine

/-- S.LD.s: element `idx`, zero-extended, or RANGE (46_streams_sysreg.md R241). -/
def loadElement (st : Stream) (idx : U32) (s : State) : Result :=
  match s.mem.read st idx.toNat with
  | none => respond .range 0#64 s
  | some v => respond .ok v s

/-- S.LEN.s: `LEN[s]` (46_streams_sysreg.md R242). -/
def loadLength (st : Stream) (s : State) : Result :=
  respond .ok (BitVec.ofNat 64 (s.mem.len st)) s

/-- S.APP.s in phase OPEN: append, or FULL (46_streams_sysreg.md R243). -/
def appendElement (st : Stream) (v : U64) (s : State) : Result :=
  if s.isFull st then respond .full 0#64 s
  else respond .ok 0#64 (s.append st v)

/-- S.LD.TAG (46_streams_sysreg.md R241). -/
def execSLdTag (idx : U32) (s : State) : Result :=
  unlessFaulted (loadElement .tag idx s) s

/-- S.LD.DISC (46_streams_sysreg.md R241). -/
def execSLdDisc (idx : U32) (s : State) : Result :=
  unlessFaulted (loadElement .disc idx s) s

/-- S.LD.O16 (46_streams_sysreg.md R241). -/
def execSLdO16 (idx : U32) (s : State) : Result :=
  unlessFaulted (loadElement .o16 idx s) s

/-- S.LD.O32 (46_streams_sysreg.md R241). -/
def execSLdO32 (idx : U32) (s : State) : Result :=
  unlessFaulted (loadElement .o32 idx s) s

/-- S.LD.O64 (46_streams_sysreg.md R241). -/
def execSLdO64 (idx : U32) (s : State) : Result :=
  unlessFaulted (loadElement .o64 idx s) s

/-- S.LEN.TAG (46_streams_sysreg.md R242). -/
def execSLenTag (s : State) : Result :=
  unlessFaulted (loadLength .tag s) s

/-- S.LEN.DISC (46_streams_sysreg.md R242). -/
def execSLenDisc (s : State) : Result :=
  unlessFaulted (loadLength .disc s) s

/-- S.LEN.O16 (46_streams_sysreg.md R242). -/
def execSLenO16 (s : State) : Result :=
  unlessFaulted (loadLength .o16 s) s

/-- S.LEN.O32 (46_streams_sysreg.md R242). -/
def execSLenO32 (s : State) : Result :=
  unlessFaulted (loadLength .o32 s) s

/-- S.LEN.O64 (46_streams_sysreg.md R242). -/
def execSLenO64 (s : State) : Result :=
  unlessFaulted (loadLength .o64 s) s

/-- S.APP.TAG (46_streams_sysreg.md R243). -/
def execSAppTag (v : BitVec 8) (s : State) : Result :=
  unlessFaulted (ifOpen (appendElement .tag (zext64 v) s) s) s

/-- S.APP.DISC (46_streams_sysreg.md R243). -/
def execSAppDisc (v : BitVec 2) (s : State) : Result :=
  unlessFaulted (ifOpen (appendElement .disc (zext64 v) s) s) s

/-- S.APP.O16 (46_streams_sysreg.md R243). -/
def execSAppO16 (v : BitVec 16) (s : State) : Result :=
  unlessFaulted (ifOpen (appendElement .o16 (zext64 v) s) s) s

/-- S.APP.O32 (46_streams_sysreg.md R243). -/
def execSAppO32 (v : BitVec 32) (s : State) : Result :=
  unlessFaulted (ifOpen (appendElement .o32 (zext64 v) s) s) s

/-- S.APP.O64 (46_streams_sysreg.md R243). -/
def execSAppO64 (v : BitVec 64) (s : State) : Result :=
  unlessFaulted (ifOpen (appendElement .o64 (zext64 v) s) s) s

end Sys2Proof.Machine
end

