-- ==== Sys2Proof/Machine/SysReg.lean ====
section
/-! DEFINITION. The system-register window and S.RD (10_state.md R38 to R40,
46_streams_sysreg.md R244). -/

namespace Sys2Proof.Machine

/-- The value of system register `n`; none for a number that is not implemented
(10_state.md R39, R40). -/
def sysReg (n : U8) (s : State) : Option U64 :=
  match n.toNat with
  | 0x00 => some idConstant
  | 0x01 => some (statusRegister s)
  | 0x02 => some s.kCur
  | 0x03 => some (zext64 s.cHi)
  | 0x04 => some (packPair (s.cBx, s.cBy))
  | 0x05 => some (rotRegister s)
  | 0x06 => some s.dCur
  | 0x07 => some (zext64 s.dTp)
  | 0x08 => some (zext64 s.dDp)
  | 0x09 => some (zext64 s.dP16)
  | 0x0A => some (zext64 s.dP32)
  | 0x0B => some (zext64 s.dP64)
  | 0x0C => some s.finfo
  | 0x10 => some (zext64 s.caps.tag)
  | 0x11 => some (zext64 s.caps.disc)
  | 0x12 => some (zext64 s.caps.o16)
  | 0x13 => some (zext64 s.caps.o32)
  | 0x14 => some (zext64 s.caps.o64)
  | _ => none

/-- S.RD: the one command that runs while `FAULTED = 1` (46_streams_sysreg.md R244,
60_exceptions.md R277). -/
def execSRd (n : U8) (s : State) : Result :=
  match sysReg n s with
  | none => respondIllegal s
  | some v => respond .ok v s

end Sys2Proof.Machine
end

