-- ==== Sys2Proof/Machine/ZOrder.lean ====
section
/-! DEFINITION. The Z-order tangler: Z.ENT and Z.DET (41_zorder.md R130 to R137). -/

namespace Sys2Proof.Machine

/-- The chunks below `n` of the Z-order index: chunk `j` is `ZENT_T[byte(x, j), byte(y, j)]`
(41_zorder.md R133). -/
def zEntangleTo (T : Tables) : Nat → U32 → U32 → U64
  | 0, _, _ => 0#64
  | j + 1, x, y => zEntangleTo T j x y ||| atChunk (T.zent (byteOf x j) (byteOf y j)) j

/-- The Z-order `entangle` (41_zorder.md R133). -/
def zEntangle (T : Tables) (x y : U32) : U64 := zEntangleTo T 4 x y

/-- The bytes below `n` of the coordinates: byte `j` of each comes from `ZDET_T[chunk(t, j)]`
(41_zorder.md R134). -/
def zDetangleTo (T : Tables) : Nat → U64 → U32 × U32
  | 0, _ => (0#32, 0#32)
  | j + 1, t =>
    let p := zDetangleTo T j t
    let b := T.zdet (chunkOf t j)
    (p.1 ||| atByte b.1 j, p.2 ||| atByte b.2 j)

/-- The Z-order `detangle` (41_zorder.md R134). -/
def zDetangle (T : Tables) (t : U64) : U32 × U32 := zDetangleTo T 4 t

/-- Z.ENT (41_zorder.md R133). -/
def execZEnt (x y : U32) (s : State) : Result :=
  unlessFaulted (respond .ok (zEntangle glcoreTables x y) s) s

/-- Z.DET (41_zorder.md R134). -/
def execZDet (t : U64) (s : State) : Result :=
  unlessFaulted (respond .ok (packPair (zDetangle glcoreTables t)) s) s

end Sys2Proof.Machine
end

