-- ==== Sys2Proof/Machine/Dispatch.lean ====
section
/-! DEFINITION. The dispatch: one arm per command, each one direct call of its meaning. -/

namespace Sys2Proof.Machine

def exec (i : Instr) (s : State) : Host.Outcome State Fault Refusal :=
  match i with
  | .zEnt x y => Sys2Proof.Machine.execZEnt x y s
  | .zDet t => Sys2Proof.Machine.execZDet t s
  | .hEnt x y => Sys2Proof.Machine.execHEnt x y s
  | .hDet t => Sys2Proof.Machine.execHDet t s
  | .bEnt x y => Sys2Proof.Machine.execBEnt x y s
  | .bDet t => Sys2Proof.Machine.execBDet t s
  | .cNew => Sys2Proof.Machine.execCNew s
  | .cDet t => Sys2Proof.Machine.execCDet t s
  | .kNew => Sys2Proof.Machine.execKNew s
  | .kCap hint => Sys2Proof.Machine.execKCap hint s
  | .kPush v => Sys2Proof.Machine.execKPush v s
  | .kDone => Sys2Proof.Machine.execKDone s
  | .dStart => Sys2Proof.Machine.execDStart s
  | .dNext => Sys2Proof.Machine.execDNext s
  | .dHint => Sys2Proof.Machine.execDHint s
  | .sLdTag idx => Sys2Proof.Machine.execSLdTag idx s
  | .sLdDisc idx => Sys2Proof.Machine.execSLdDisc idx s
  | .sLdO16 idx => Sys2Proof.Machine.execSLdO16 idx s
  | .sLdO32 idx => Sys2Proof.Machine.execSLdO32 idx s
  | .sLdO64 idx => Sys2Proof.Machine.execSLdO64 idx s
  | .sLenTag => Sys2Proof.Machine.execSLenTag s
  | .sLenDisc => Sys2Proof.Machine.execSLenDisc s
  | .sLenO16 => Sys2Proof.Machine.execSLenO16 s
  | .sLenO32 => Sys2Proof.Machine.execSLenO32 s
  | .sLenO64 => Sys2Proof.Machine.execSLenO64 s
  | .sAppTag v => Sys2Proof.Machine.execSAppTag v s
  | .sAppDisc v => Sys2Proof.Machine.execSAppDisc v s
  | .sAppO16 v => Sys2Proof.Machine.execSAppO16 v s
  | .sAppO32 v => Sys2Proof.Machine.execSAppO32 v s
  | .sAppO64 v => Sys2Proof.Machine.execSAppO64 v s
  | .sRd n => Sys2Proof.Machine.execSRd n s

end Sys2Proof.Machine
end

