-- ==== Sys2Proof/Machine/Run.lean ====
section
/-! DEFINITION. A command word executed: decode, then the command (60_exceptions.md R279). -/

namespace Sys2Proof.Machine

/-- Decode comes first, before `FAULTED` and every other check, so an illegal word is ILLEGAL in every
state (60_exceptions.md R273, R279 (1)); a legal word runs its command. -/
def State.runWord (s : State) (cmd : CommandWord) : Result :=
  match decode cmd with
  | .ok i => exec i s
  | .error _ => respondIllegal s

/-- The block idle between commands: nothing changes (60_exceptions.md R287). Log entry 3. -/
def State.idle (s : State) : Result := .next s

end Sys2Proof.Machine
end

