-- ==== Sys2Proof/Machine/Step.lean ====
section
/-! DEFINITION. One step of the machine: the block takes its next input event (00_scope.md R8). -/

namespace Sys2Proof.Machine

/-- One step. A command word is taken off the channel and executed to completion (00_scope.md R8);
reset puts every element at its reset value (70_reset_and_hazards.md R300); with no event the block is
idle. -/
def step (s : State) : Host.Outcome State Fault Refusal :=
  match s.inputs with
  | [] => s.idle
  | .reset :: rest => .next (State.afterReset { s with inputs := rest })
  | .command cmd :: rest => State.runWord { s with inputs := rest } cmd

/-- The state whose next step takes the opcode table's word `w` of `nbits` bits as its command: the word
is put in front of the events to come. Log entry 1. -/
def State.withFetchWord (s : State) (nbits w : Nat) : State :=
  { s with inputs := commandOfTable nbits w :: s.inputs }

end Sys2Proof.Machine
end

