-- ==== Sys2Proof/Safety.lean ====
section
/-! DEFINITION. What the statements call a safe state: the invariants the spec gives the block, the
classes of commands it speaks of, and how a statement has the host issue a list of commands. -/

namespace Sys2Proof.Machine

/-! ### Invariants -/

/-- The cache invariant: while `FAULTED = 0` the cache registers are what the miss procedure computes
for the prefix `C_HI` (10_state.md R26). -/
abbrev State.cacheOk (s : State) : Prop :=
  s.faulted = false → missProc glcoreTables s.cHi s = .ok s

/-- Bits 7:0 of both bases are 0 (10_state.md R24). -/
abbrev State.basesClear (s : State) : Prop :=
  byteOf s.cBx 0 = 0#8 ∧ byteOf s.cBy 0 = 0#8

/-- The parameters are in range and no stream is beyond its capacity (00_scope.md R6,
10_state.md R30). -/
abbrev State.lensOk (s : State) : Prop :=
  s.caps.ok = true ∧ s.mem.wf s.caps = true

/-- While a decompressor is active the form is sealed and no cursor is beyond its stream
(10_state.md R36). -/
abbrev State.decompressorOk (s : State) : Prop :=
  s.dAct = true →
    s.phase = .sealed ∧ s.dTp.toNat ≤ s.mem.len .tag ∧ s.dDp.toNat ≤ s.mem.len .disc ∧
    s.dP16.toNat ≤ s.mem.len .o16 ∧ s.dP32.toNat ≤ s.mem.len .o32 ∧ s.dP64.toNat ≤ s.mem.len .o64

/-- The invariant of the block: what holds after reset and after every step. -/
abbrev State.Inv (s : State) : Prop :=
  s.cacheOk ∧ s.basesClear ∧ s.lensOk ∧ s.decompressorOk

/-- A safe state: the block is not in the FAULTED state and its invariant holds. -/
abbrev State.Safe (s : State) : Prop := s.faulted = false ∧ s.Inv

/-- The stream invariant (10_state.md R31): one discriminator for every zero tag, one element of the
named overflow stream for every discriminator, no reserved discriminator. -/
abbrev Memory.consistent (m : Memory) : Prop :=
  m.tag.count 0#8 = m.disc.length ∧
  m.disc.length = m.o16.length + m.o32.length + m.o64.length ∧
  m.disc.count 0#2 = m.o16.length ∧ m.disc.count 1#2 = m.o32.length ∧
  m.disc.count 2#2 = m.o64.length ∧ m.disc.count 3#2 = 0

/-- The element ranges of arrays that only the compressor wrote (10_state.md R30,
44_compressor.md R207). -/
abbrev Memory.compressorMade (m : Memory) : Prop :=
  (m.o16.all fun d => decide (d = 0#16 ∨ 256 ≤ d.toNat)) = true ∧
  (m.o32.all fun d => decide (2 ^ 16 ≤ d.toNat)) = true ∧
  (m.o64.all fun d => decide (2 ^ 32 ≤ d.toNat)) = true

/-! ### Classes of commands -/

/-- The curve commands: units Z, H, B and C (30_encoding.md R86). -/
def isCurve : Instr → Bool
  | .zEnt _ _ => true
  | .zDet _ => true
  | .hEnt _ _ => true
  | .hDet _ => true
  | .bEnt _ _ => true
  | .bDet _ => true
  | .cNew => true
  | .cDet _ => true
  | .kNew => false
  | .kCap _ => false
  | .kPush _ => false
  | .kDone => false
  | .dStart => false
  | .dNext => false
  | .dHint => false
  | .sLdTag _ => false
  | .sLdDisc _ => false
  | .sLdO16 _ => false
  | .sLdO32 _ => false
  | .sLdO64 _ => false
  | .sLenTag => false
  | .sLenDisc => false
  | .sLenO16 => false
  | .sLenO32 => false
  | .sLenO64 => false
  | .sAppTag _ => false
  | .sAppDisc _ => false
  | .sAppO16 _ => false
  | .sAppO32 _ => false
  | .sAppO64 _ => false
  | .sRd _ => false

/-- The compressor commands: K.NEW, K.CAP, K.PUSH, K.DONE (44_compressor.md R208). -/
def isCompressor : Instr → Bool
  | .zEnt _ _ => false
  | .zDet _ => false
  | .hEnt _ _ => false
  | .hDet _ => false
  | .bEnt _ _ => false
  | .bDet _ => false
  | .cNew => false
  | .cDet _ => false
  | .kNew => true
  | .kCap _ => true
  | .kPush _ => true
  | .kDone => true
  | .dStart => false
  | .dNext => false
  | .dHint => false
  | .sLdTag _ => false
  | .sLdDisc _ => false
  | .sLdO16 _ => false
  | .sLdO32 _ => false
  | .sLdO64 _ => false
  | .sLenTag => false
  | .sLenDisc => false
  | .sLenO16 => false
  | .sLenO32 => false
  | .sLenO64 => false
  | .sAppTag _ => false
  | .sAppDisc _ => false
  | .sAppO16 _ => false
  | .sAppO32 _ => false
  | .sAppO64 _ => false
  | .sRd _ => false

/-- The commands S.APP.s (46_streams_sysreg.md R243). -/
def isAppend : Instr → Bool
  | .zEnt _ _ => false
  | .zDet _ => false
  | .hEnt _ _ => false
  | .hDet _ => false
  | .bEnt _ _ => false
  | .bDet _ => false
  | .cNew => false
  | .cDet _ => false
  | .kNew => false
  | .kCap _ => false
  | .kPush _ => false
  | .kDone => false
  | .dStart => false
  | .dNext => false
  | .dHint => false
  | .sLdTag _ => false
  | .sLdDisc _ => false
  | .sLdO16 _ => false
  | .sLdO32 _ => false
  | .sLdO64 _ => false
  | .sLenTag => false
  | .sLenDisc => false
  | .sLenO16 => false
  | .sLenO32 => false
  | .sLenO64 => false
  | .sAppTag _ => true
  | .sAppDisc _ => true
  | .sAppO16 _ => true
  | .sAppO32 _ => true
  | .sAppO64 _ => true
  | .sRd _ => false

/-- The commands that only read: the stateless curve commands, D.HINT, S.LD.s, S.LEN.s and S.RD
(10_state.md R20, 20_memory.md R68). -/
def isRead : Instr → Bool
  | .zEnt _ _ => true
  | .zDet _ => true
  | .hEnt _ _ => true
  | .hDet _ => true
  | .bEnt _ _ => true
  | .bDet _ => true
  | .cNew => false
  | .cDet _ => false
  | .kNew => false
  | .kCap _ => false
  | .kPush _ => false
  | .kDone => false
  | .dStart => false
  | .dNext => false
  | .dHint => true
  | .sLdTag _ => true
  | .sLdDisc _ => true
  | .sLdO16 _ => true
  | .sLdO32 _ => true
  | .sLdO64 _ => true
  | .sLenTag => true
  | .sLenDisc => true
  | .sLenO16 => true
  | .sLenO32 => true
  | .sLenO64 => true
  | .sAppTag _ => false
  | .sAppDisc _ => false
  | .sAppO16 _ => false
  | .sAppO32 _ => false
  | .sAppO64 _ => false
  | .sRd _ => true

/-- The commands whose OK response carries a result (30_encoding.md R82). -/
def hasResult : Instr → Bool
  | .zEnt _ _ => true
  | .zDet _ => true
  | .hEnt _ _ => true
  | .hDet _ => true
  | .bEnt _ _ => true
  | .bDet _ => true
  | .cNew => false
  | .cDet _ => true
  | .kNew => false
  | .kCap _ => false
  | .kPush _ => false
  | .kDone => false
  | .dStart => false
  | .dNext => true
  | .dHint => true
  | .sLdTag _ => true
  | .sLdDisc _ => true
  | .sLdO16 _ => true
  | .sLdO32 _ => true
  | .sLdO64 _ => true
  | .sLenTag => true
  | .sLenDisc => true
  | .sLenO16 => true
  | .sLenO32 => true
  | .sLenO64 => true
  | .sAppTag _ => false
  | .sAppDisc _ => false
  | .sAppO16 _ => false
  | .sAppO32 _ => false
  | .sAppO64 _ => false
  | .sRd _ => true

/-- What the command needs of the life cycle (60_exceptions.md R274). -/
def phaseMet (s : State) : Instr → Bool
  | .zEnt _ _ => true
  | .zDet _ => true
  | .hEnt _ _ => true
  | .hDet _ => true
  | .bEnt _ _ => true
  | .bDet _ => true
  | .cNew => true
  | .cDet _ => true
  | .kNew => true
  | .kCap _ => true
  | .kPush _ => s.phase == .opened
  | .kDone => s.phase == .opened
  | .dStart => s.phase == .sealed
  | .dNext => s.dAct
  | .dHint => s.dAct
  | .sLdTag _ => true
  | .sLdDisc _ => true
  | .sLdO16 _ => true
  | .sLdO32 _ => true
  | .sLdO64 _ => true
  | .sLenTag => true
  | .sLenDisc => true
  | .sLenO16 => true
  | .sLenO32 => true
  | .sLenO64 => true
  | .sAppTag _ => s.phase == .opened
  | .sAppDisc _ => s.phase == .opened
  | .sAppO16 _ => s.phase == .opened
  | .sAppO32 _ => s.phase == .opened
  | .sAppO64 _ => s.phase == .opened
  | .sRd _ => true

/-! ### The two halves of the block (44_compressor.md R208) -/

/-- `s` with the compressor, the streams and the decompressor of `c`. -/
def State.withCodecOf (s c : State) : State :=
  { s with kCur := c.kCur, phase := c.phase, mem := c.mem, dAct := c.dAct, dCur := c.dCur,
           dTp := c.dTp, dDp := c.dDp, dP16 := c.dP16, dP32 := c.dP32, dP64 := c.dP64 }

/-- `s` with the cached decoder of `c`. -/
def State.withCacheOf (s c : State) : State :=
  { s with cHi := c.cHi, cBx := c.cBx, cBy := c.cBy, cSwap := c.cSwap, cFlip := c.cFlip }

/-! ### Issuing commands -/

/-- The host issues the commands of this list and nothing else (30_encoding.md R80). -/
def State.issue (s : State) (cs : List Instr) : State :=
  { s with inputs := cs.map fun i => .command (encode i) }

/-! ### Functions of the spec that the block has no register for -/

/-- `(swap, reflect)` from the eight quadrant codes of a partial tangle, from the most significant down:
code 0 toggles `swap`, code 3 toggles both, codes 1 and 2 nothing (42_hilbert.md R155 (c)). The walk over
the codes `n-1` down to 0. -/
def flagsOfCodes : Nat → U16 → Bool × Bool → Bool × Bool
  | 0, _, f => f
  | n + 1, p, f =>
    let q := p.extractLsb' (2 * n) 2
    flagsOfCodes n p
      (if q = 0#2 then (!f.1, f.2) else if q = 3#2 then (!f.1, !f.2) else f)

/-- The most-significant-first form of H.DET: the walk over the chunks `n-1` down to 0 with the running
flags `(sw, fl)` (42_hilbert.md R158). -/
def hDetangleMsf : Nat → U64 → Bool × Bool → U32 × U32
  | 0, _, _ => (0#32, 0#32)
  | d + 1, t, f =>
    let b := hdetT (chunkOf t d)
    let c := hrotT b.1 b.2
    let ab := swapIf f.1 (reflectIf f.2 255#8 b)
    let low := hDetangleMsf d t (f.1 ^^ rotSwap c, f.2 ^^ rotReflect c)
    (atByte ab.1 d ||| low.1, atByte ab.2 d ||| low.2)

/-- The deltas of a sequence of pushes, from the value pushed before it (44_compressor.md R204). -/
def deltasFrom : U64 → List U64 → List U64
  | _, [] => []
  | cur, v :: vs => (v - cur) :: deltasFrom v vs

/-- How many of the deltas are of a tier. -/
def tierCount (ds : List U64) (k : Tier) : Nat := ds.countP fun d => tierOf d == k

/-- The sequence fits: room for one tag per value, one discriminator per overflow delta and each overflow
delta in its stream (45_decompressor.md R226). -/
abbrev capsFit (c : Caps) (vs : List U64) : Prop :=
  vs.length ≤ c.tag.toNat ∧
  tierCount (deltasFrom 0#64 vs) .w16 + tierCount (deltasFrom 0#64 vs) .w32 +
    tierCount (deltasFrom 0#64 vs) .w64 ≤ c.disc.toNat ∧
  tierCount (deltasFrom 0#64 vs) .w16 ≤ c.o16.toNat ∧
  tierCount (deltasFrom 0#64 vs) .w32 ≤ c.o32.toNat ∧
  tierCount (deltasFrom 0#64 vs) .w64 ≤ c.o64.toNat

end Sys2Proof.Machine
end

