-- ==== Sys2Proof/Certificates/Slice0/Obligations.lean ====
section
/-! DEFINITION. The statements for the provers. A docstring names the rule of the spec that a statement
formalises; where it says "derived" the spec marks the clause as its own inference, or the statement joins
several rules, and where it says "the model's choice" it names the log entry. -/

open Sys2Proof Sys2Proof.Machine

/-! ### Encoding and the step -/

/-- R85 with R83 and R86: decoding an encoded command gives it back, and a word that decodes is the
encoding of what it decodes to, so no word but one stands for a command. -/
def Obligations.DecodeEncodeInverse : Prop :=
  (∀ i : Instr, decode (encode i) = .ok i) ∧
  (∀ (cmd : CommandWord) (i : Instr), decode cmd = .ok i → encode i = cmd)

/-- R85: the word is a row's command if and only if `cmd and mask = match`, the masks of different rows
never accept the same word, and a word that no row accepts is no command. -/
def Obligations.DecodeFollowsOpcodeMap : Prop :=
  (∀ (cmd : CommandWord) (r : OpcodeRow), r ∈ opcodeMap →
    (cmd &&& r.mask = r.pattern ↔ ∃ i, decode cmd = .ok i ∧ i.mnemonic = r.mnemonic)) ∧
  (∀ (cmd : CommandWord) (r r' : OpcodeRow), r ∈ opcodeMap → r' ∈ opcodeMap →
    cmd &&& r.mask = r.pattern → cmd &&& r'.mask = r'.pattern → r = r') ∧
  (∀ cmd : CommandWord, (∀ r ∈ opcodeMap, cmd &&& r.mask ≠ r.pattern) →
    ∃ e, decode cmd = .error e)

/-- Words written out from R83 and R86, one for each format, decode to the commands they stand for; the
words are those of 95_test_vectors.md. -/
def Obligations.DecodeKnownWords : Prop :=
  decode 0x10123456789ABCDEF0#72 = .ok (.hEnt 0x12345678#32 0x9ABCDEF0#32) ∧
  decode 0x3142484ACA4842406A#72 = .ok (.cDet 0x42484ACA4842406A#64) ∧
  decode 0x42000000000001E214#72 = .ok (.kPush 0x1E214#64) ∧
  decode 0x510000000000000000#72 = .ok .dNext ∧
  decode 0x640000000000000002#72 = .ok (.sLdO64 2#32) ∧
  decode 0x720000000000001234#72 = .ok (.sAppO16 0x1234#16) ∧
  decode 0x80000000000000000D#72 = .ok (.sRd 0x0D#8)

/-- R8: the step takes the next command word off the channel and runs the command it decodes to on the
state that remains; that the channel is a list of the state is the model's choice (log entry 1). -/
def Obligations.StepRunsDecodedCommand : Prop :=
  ∀ (s : State) (cmd : CommandWord) (rest : List Input) (i : Instr),
    s.inputs = .command cmd :: rest → decode cmd = .ok i →
    step s = exec i { s with inputs := rest }

/-- R87 and R273: a word that no row of the opcode map accepts is answered (ILLEGAL, 0) and changes no
state, in every state, also while `FAULTED = 1`. -/
def Obligations.IllegalWordsAnswered : Prop :=
  ∀ (s : State) (cmd : CommandWord) (rest : List Input),
    s.inputs = .command cmd :: rest → (∀ r ∈ opcodeMap, cmd &&& r.mask ≠ r.pattern) →
    step s =
      .next { s with inputs := rest, responses := s.responses ++ [2#4 ++ 0#64] }

/-- R300 and R301: reset gives every element of the block its reset value, in every state, and produces no
response; that it is an event of the list and leaves the capacities alone is the model's choice (log
entries 4 and 10). -/
def Obligations.ResetEventResets : Prop :=
  ∀ (s : State) (rest : List Input), s.inputs = .reset :: rest →
    ∃ t, step s = .next t ∧ t.inputs = rest ∧ t.responses = s.responses ∧ t.caps = s.caps ∧
      t.cHi = 0#48 ∧ t.cBx = 0#32 ∧ t.cBy = 0#32 ∧ t.cSwap = false ∧ t.cFlip = false ∧
      t.faulted = false ∧ t.finfo = 0#64 ∧ t.kCur = 0#64 ∧ t.phase = .opened ∧
      t.mem = Memory.empty ∧ t.dAct = false ∧ t.dCur = 0#64 ∧
      t.dTp = 0#33 ∧ t.dDp = 0#33 ∧ t.dP16 = 0#33 ∧ t.dP32 = 0#33 ∧ t.dP64 = 0#33 ∧
      t.fatalOut = false

/-- R44: the reset value of every state element; the tables are constants and hold their contents then as
always. The capacities and the channels are no element of the block and stand under no clause here. -/
def Obligations.ResetValues : Prop :=
  State.reset.cHi = 0#48 ∧ State.reset.cBx = 0#32 ∧ State.reset.cBy = 0#32 ∧
  State.reset.cSwap = false ∧ State.reset.cFlip = false ∧
  State.reset.faulted = false ∧ State.reset.finfo = 0#64 ∧ State.reset.kCur = 0#64 ∧
  State.reset.phase = .opened ∧ (∀ st, State.reset.mem.len st = 0) ∧
  State.reset.dAct = false ∧ State.reset.dCur = 0#64 ∧
  (∀ st, State.reset.cursor st = 0#33) ∧
  glcoreTables.zent = zentT ∧ glcoreTables.zdet = zdetT ∧ glcoreTables.hent = hentT ∧
  glcoreTables.hdet = hdetT ∧ glcoreTables.hrot = hrotT

/-- The model's choice (log entry 3), resting on R287: with no event to come the block is idle and the
step changes nothing. -/
def Obligations.IdleStepChangesNothing : Prop :=
  ∀ s : State, s.inputs = [] → step s = .next s

/-- R9: for every state and every command word the step has a next state and exactly one response more;
the word is consumed. -/
def Obligations.EveryCommandIsTotal : Prop :=
  ∀ (s : State) (cmd : CommandWord) (rest : List Input), s.inputs = .command cmd :: rest →
    ∃ t r, step s = .next t ∧ t.responses = s.responses ++ [r] ∧ t.inputs = rest

/-- R82: the status stands in bits 67:64 and the data in bits 63:0; a status is one of the codes 0 to 7;
when it is not OK the data is 0, but for the FATAL of the failing C.DET itself, whose data is the `FINFO`
word; and a command that has no result answers data 0. -/
def Obligations.ResponseDataRule : Prop :=
  (∀ (st : Status) (d : U64), (responseWord st d).extractLsb' 64 4 = st.code ∧
    (responseWord st d).extractLsb' 0 64 = d) ∧
  (∀ (s t : State) (cmd : CommandWord) (rest : List Input) (r : ResponseWord),
    s.inputs = .command cmd :: rest → step s = .next t → t.responses = s.responses ++ [r] →
    (rspStatus r).toNat ≤ 7 ∧
    (rspStatus r ≠ 0#4 → rspData r = 0#64 ∨
      (rspStatus r = 7#4 ∧ s.faulted = false ∧ t.faulted = true ∧ rspData r = t.finfo))) ∧
  (∀ (s t : State) (i : Instr) (r : ResponseWord), hasResult i = false →
    exec i s = .next t → t.responses = s.responses ++ [r] → rspData r = 0#64)

/-- R270: the five refusals and the end of a sequence change nothing but the response, BADSTREAM nothing
but `D_ACT` as well. -/
def Obligations.RefusedCommandChangesNothing : Prop :=
  ∀ (s : State) (cmd : CommandWord) (rest : List Input), s.inputs = .command cmd :: rest →
    ∃ t r, step s = .next t ∧ t.responses = s.responses ++ [r] ∧ (rspStatus r).toNat ≤ 7 ∧
      ((rspStatus r).toNat ∈ [1, 2, 3, 4, 5] →
        t = { s with inputs := rest, responses := s.responses ++ [r] }) ∧
      (rspStatus r = 6#4 →
        t = { s with inputs := rest, responses := s.responses ++ [r], dAct := false })

/-- R277 after the cause: while `FAULTED = 1` the `fatal` output is 1, every word is answered without a
change of state, illegal words with ILLEGAL, legal ones but S.RD with (FATAL, 0), and S.RD runs: an
implemented register is answered (OK, its value). -/
def Obligations.FaultedBlockRefuses : Prop :=
  ∀ (s : State) (cmd : CommandWord) (rest : List Input),
    s.faulted = true → s.inputs = .command cmd :: rest →
    s.fatalOut = true ∧
    (∀ i, decode cmd = .ok i → (∀ n, i ≠ .sRd n) →
      step s = .next { s with inputs := rest, responses := s.responses ++ [7#4 ++ 0#64] }) ∧
    (∀ n v, decode cmd = .ok (.sRd n) → sysReg n s = some v →
      step s = .next { s with inputs := rest, responses := s.responses ++ [0#4 ++ v] }) ∧
    (∀ e, decode cmd = .error e →
      step s = .next { s with inputs := rest, responses := s.responses ++ [2#4 ++ 0#64] })

/-- R27: no command but C.DET writes `FAULTED` or `FINFO`, none at all does once `FAULTED = 1`, when all
but S.RD answer FATAL and change no state, and reset clears both; a C.DET, over any tables, leaves both as
they are or, when it misses and its sentinel is none of the four patterns, sets `FAULTED` and writes the
failing prefix and the sentinel's two low bytes into `FINFO`. -/
def Obligations.OnlyCDetSetsFaulted : Prop :=
  (∀ (s t : State) (i : Instr), exec i s = .next t →
    (s.faulted = true ∨ ∀ tg, i ≠ .cDet tg) → t.faulted = s.faulted ∧ t.finfo = s.finfo) ∧
  (∀ (T : Tables) (s t : State) (tg : U64), s.faulted = false → cDetangle T tg s = .next t →
    (t.faulted = false ∧ t.finfo = s.finfo) ∨
    (t.faulted = true ∧ tg.extractLsb' 16 48 ≠ s.cHi ∧
      classify (byteOf (hDetangle T (sentinelOf (prefixOf tg))).1 0)
        (byteOf (hDetangle T (sentinelOf (prefixOf tg))).2 0) = none ∧
      t.finfo.extractLsb' 16 48 = tg.extractLsb' 16 48 ∧
      t.finfo.extractLsb' 8 8 = byteOf (hDetangle T (sentinelOf (prefixOf tg))).1 0 ∧
      t.finfo.extractLsb' 0 8 = byteOf (hDetangle T (sentinelOf (prefixOf tg))).2 0)) ∧
  (∀ (s : State) (i : Instr), s.faulted = true → (∀ n, i ≠ .sRd n) →
    exec i s = .next { s with responses := s.responses ++ [7#4 ++ 0#64] }) ∧
  (State.reset.faulted = false ∧ State.reset.finfo = 0#64) ∧
  (∀ (s : State) (rest : List Input), s.inputs = .reset :: rest →
    ∃ t, step s = .next t ∧ t.faulted = false ∧ t.finfo = 0#64)

/-- R274: a command is answered PHASE exactly when the block is not FAULTED and the life cycle does not
stand where the command needs it. -/
def Obligations.PhaseStatusExactly : Prop :=
  ∀ (s t : State) (i : Instr) (r : ResponseWord),
    exec i s = .next t → t.responses = s.responses ++ [r] →
    (rspStatus r = 3#4 ↔ s.faulted = false ∧ phaseMet s i = false)

/-- The invariant of the block holds at reset (10_state.md R24, R30, R36 and the prefix-0 cache of
43_cached.md R190); the capacities at reset are the model's choice (log entry 4). -/
def Obligations.InvariantAtReset : Prop :=
  State.reset.Safe

/-- Every step keeps the capacities and the invariant of the block: the cache is what the miss procedure
computes for its prefix, the bases have a clear low byte, no stream is beyond its capacity, no cursor
beyond its stream. -/
def Obligations.StepKeepsInvariant : Prop :=
  ∀ s t : State, s.Inv → step s = .next t → t.Inv ∧ t.caps = s.caps

/-- 20_memory.md section 4: no read has a side effect. Whatever the stateless curve commands, D.HINT,
S.LD, S.LEN and S.RD answer, only the response is new. -/
def Obligations.ReadsHaveNoSideEffect : Prop :=
  ∀ (s : State) (i : Instr), isRead i = true →
    ∃ r, exec i s = .next { s with responses := s.responses ++ [r] }

/-- R208: the compressor commands neither read nor write the cache registers, and the curve commands
neither read nor write the compressor, the streams or the decompressor. -/
def Obligations.CurveAndCompressorIndependent : Prop :=
  (∀ (s c t : State) (i : Instr), isCompressor i = true → exec i s = .next t →
    t.withCacheOf s = t ∧ exec i (s.withCacheOf c) = .next (t.withCacheOf c)) ∧
  (∀ (s c t : State) (i : Instr), isCurve i = true → exec i s = .next t →
    t.withCodecOf s = t ∧ exec i (s.withCodecOf c) = .next (t.withCodecOf c))

/-! ### Z-order -/

/-- 41_zorder.md section 4 (closed form, an inference of the spec from R131, R133 and R134): Z.ENT answers
the index whose even bits are the bits of x and whose odd bits are the bits of y, Z.DET the pair read back,
and nothing else changes. -/
def Obligations.ZOrderClosedForm : Prop :=
  ∀ s : State, s.faulted = false →
    (∀ x y : U32, ∃ t : U64, exec (.zEnt x y) s = .next (s.answer .ok t) ∧
      ∀ i, i < 32 → t.getLsbD (2 * i) = x.getLsbD i ∧ t.getLsbD (2 * i + 1) = y.getLsbD i) ∧
    (∀ t : U64, ∃ x y : U32, exec (.zDet t) s = .next (s.answer .ok (x ++ y)) ∧
      ∀ i, i < 32 → x.getLsbD i = t.getLsbD (2 * i) ∧ y.getLsbD i = t.getLsbD (2 * i + 1))

/-- R136: Z.DET of the result of Z.ENT returns the pair, Z.ENT of the result of Z.DET the index. -/
def Obligations.ZOrderBijection : Prop :=
  ∀ s : State, s.faulted = false →
    (∀ x y : U32, ∃ t : U64, exec (.zEnt x y) s = .next (s.answer .ok t) ∧
      exec (.zDet t) s = .next (s.answer .ok (x ++ y))) ∧
    (∀ t : U64, ∃ x y : U32, exec (.zDet t) s = .next (s.answer .ok (x ++ y)) ∧
      exec (.zEnt x y) s = .next (s.answer .ok t))

/-- R131 and R132: the contents of `ZENT_T` and `ZDET_T`, each the inverse of the other. -/
def Obligations.ZOrderTables : Prop :=
  (∀ (xb yb : U8) (i : Nat), i < 8 →
    (zentT xb yb).getLsbD (2 * i) = xb.getLsbD i ∧
    (zentT xb yb).getLsbD (2 * i + 1) = yb.getLsbD i) ∧
  (∀ (z : U16) (i : Nat), i < 8 →
    (zdetT z).1.getLsbD i = z.getLsbD (2 * i) ∧
    (zdetT z).2.getLsbD i = z.getLsbD (2 * i + 1)) ∧
  (∀ xb yb : U8, zdetT (zentT xb yb) = (xb, yb)) ∧
  (∀ z : U16, zentT (zdetT z).1 (zdetT z).2 = z) ∧
  zdetT 0x00FF#16 = (0x0F#8, 0x0F#8) ∧ zdetT 0x1234#16 = (0x46#8, 0x14#8) ∧
  zdetT 0x8000#16 = (0x00#8, 0x80#8)

/-- R137: chunk `j` of Z.ENT's result depends only on byte `j` of x and of y, byte `j` of Z.DET's result
only on chunk `j` of the index; over any tables. -/
def Obligations.ZOrderChunkLocality : Prop :=
  ∀ (T : Tables) (j : Nat), j < 4 →
    (∀ x y x' y' : U32, byteOf x j = byteOf x' j → byteOf y j = byteOf y' j →
      chunkOf (zEntangle T x y) j = chunkOf (zEntangle T x' y') j) ∧
    (∀ t t' : U64, chunkOf t j = chunkOf t' j →
      byteOf (zDetangle T t).1 j = byteOf (zDetangle T t').1 j ∧
      byteOf (zDetangle T t).2 j = byteOf (zDetangle T t').2 j)

/-! ### The bit reference -/

/-- R111: the quadrant codes and how the bits are read back from a code. -/
def Obligations.QuadrantCodes : Prop :=
  quadCode false false = 0#2 ∧ quadCode false true = 1#2 ∧
  quadCode true true = 2#2 ∧ quadCode true false = 3#2 ∧
  ∀ rx ry : Bool, quadX (quadCode rx ry) = rx ∧ quadY (quadCode rx ry) = ry

/-- R112: for fields below `2^k` the transform keeps them for `ry = 1`, swaps them for `ry = rx = 0`, swaps
and reflects them in `k` bits for `ry = 0, rx = 1`, stays below `2^k`, and is its own inverse. -/
def Obligations.SubQuadrantTransform : Prop :=
  ∀ (k : Nat) (a b : U32), k ≤ 31 → a.toNat < 2 ^ k → b.toNat < 2 ^ k →
    (∀ rx, bitRotate k (a, b) rx true = (a, b)) ∧
    bitRotate k (a, b) false false = (b, a) ∧
    ((bitRotate k (a, b) true false).1.toNat = 2 ^ k - 1 - b.toNat ∧
      (bitRotate k (a, b) true false).2.toNat = 2 ^ k - 1 - a.toNat) ∧
    (∀ rx ry, (bitRotate k (a, b) rx ry).1.toNat < 2 ^ k ∧
      (bitRotate k (a, b) rx ry).2.toNat < 2 ^ k ∧
      bitRotate k (bitRotate k (a, b) rx ry) rx ry = (a, b))

/-- R110 and R117: B.ENT answers the reference entangle and B.DET the reference detangle, nothing else
changes, and the two are exact inverses on all inputs. -/
def Obligations.BitReferenceInverse : Prop :=
  (∀ s : State, s.faulted = false →
    (∀ x y : U32, exec (.bEnt x y) s = .next (s.answer .ok (bitEntangle x y))) ∧
    (∀ t : U64, exec (.bDet t) s =
      .next (s.answer .ok ((bitDetangle t).1 ++ (bitDetangle t).2)))) ∧
  (∀ x y : U32, bitDetangle (bitEntangle x y) = (x, y)) ∧
  (∀ t : U64, bitEntangle (bitDetangle t).1 (bitDetangle t).2 = t)

/-- 40_bitref.md section 5 (prefix property, an inference of the spec from R113): bits `63:2k` of the
index depend only on bits `31:k` of x and of y. -/
def Obligations.BitReferencePrefix : Prop :=
  ∀ (k : Nat) (x y x' y' : U32), k ≤ 32 → x >>> k = x' >>> k → y >>> k = y' >>> k →
    bitEntangle x y >>> (2 * k) = bitEntangle x' y' >>> (2 * k)

/-- 40_bitref.md section 5 (continuity, an inference of the spec from R112 to R114): consecutive indexes
are cells that differ by 1 in exactly one coordinate. -/
def Obligations.HilbertContinuity : Prop :=
  ∀ t : U64, t ≠ 0xFFFFFFFFFFFFFFFF#64 →
    ((bitDetangle t).1 = (bitDetangle (t + 1#64)).1 ∧
      ((bitDetangle (t + 1#64)).2.toNat = (bitDetangle t).2.toNat + 1 ∨
        (bitDetangle t).2.toNat = (bitDetangle (t + 1#64)).2.toNat + 1)) ∨
    ((bitDetangle t).2 = (bitDetangle (t + 1#64)).2 ∧
      ((bitDetangle (t + 1#64)).1.toNat = (bitDetangle t).1.toNat + 1 ∨
        (bitDetangle t).1.toNat = (bitDetangle (t + 1#64)).1.toNat + 1))

/-- The corner cases and worked examples of R115 and R116. -/
def Obligations.BitReferenceCorners : Prop :=
  bitEntangle 0#32 0#32 = 0#64 ∧
  bitEntangle 0xFFFFFFFF#32 0#32 = 0xFFFFFFFFFFFFFFFF#64 ∧
  bitEntangle 0xFFFFFFFF#32 0xFFFFFFFF#32 = 0xAAAAAAAAAAAAAAAA#64 ∧
  bitEntangle 0#32 0xFFFFFFFF#32 = 0x5555555555555555#64 ∧
  bitEntangle 5#32 6#32 = 0x2D#64 ∧
  bitDetangle 0#64 = (0#32, 0#32) ∧
  bitDetangle 0xFFFFFFFFFFFFFFFF#64 = (0xFFFFFFFF#32, 0#32) ∧
  bitDetangle 1#64 = (1#32, 0#32) ∧ bitDetangle 2#64 = (1#32, 1#32) ∧
  bitDetangle 3#64 = (0#32, 1#32) ∧ bitDetangle 0x2D#64 = (5#32, 6#32)

/-! ### The table-driven Hilbert tangler -/

/-- R152: `HDET_T[p]` is the unique byte pair whose `HENT_T` entry is `p`. -/
def Obligations.HDetTableInvertsHEntTable : Prop :=
  (∀ (p : U16) (xb yb : U8), hdetT p = (xb, yb) ↔ hentT xb yb = p) ∧
  hdetT 0x0000#16 = (0x00#8, 0x00#8) ∧ hdetT 0x00FF#16 = (0x0F#8, 0x00#8) ∧
  hdetT 0xFFFF#16 = (0xFF#8, 0x00#8) ∧ hdetT 0x1234#16 = (0x53#8, 0x15#8)

/-- 42_hilbert.md R153 and R155 (c) (inferences of the spec): only the codes 4, 14, 12 and 6 occur, and a
code's two flags are those the partial tangle's eight quadrant codes give. -/
def Obligations.RotationCodesFromPartialTangle : Prop :=
  ∀ xb yb : U8,
    (hrotT xb yb = 4#4 ∨ hrotT xb yb = 14#4 ∨ hrotT xb yb = 12#4 ∨ hrotT xb yb = 6#4) ∧
    (rotSwap (hrotT xb yb), rotReflect (hrotT xb yb)) =
      flagsOfCodes 8 (hentT xb yb) (false, false)

/-- R150 and R165 for entangle: H.ENT answers the reference's index, the data of B.ENT, and nothing else
changes. -/
def Obligations.HEntEqualsReference : Prop :=
  ∀ (s : State) (x y : U32),
    exec (.hEnt x y) s = exec (.bEnt x y) s ∧
    (s.faulted = false → exec (.hEnt x y) s = .next (s.answer .ok (bitEntangle x y)))

/-- R150 and R165 for detangle: H.DET answers the reference's pair, the data of B.DET, and nothing else
changes. -/
def Obligations.HDetEqualsReference : Prop :=
  ∀ (s : State) (t : U64),
    exec (.hDet t) s = exec (.bDet t) s ∧
    (s.faulted = false →
      exec (.hDet t) s = .next (s.answer .ok ((bitDetangle t).1 ++ (bitDetangle t).2)))

/-- R160: H.DET of the result of H.ENT returns the pair, H.ENT of the result of H.DET the index. -/
def Obligations.HilbertBijection : Prop :=
  ∀ s : State, s.faulted = false →
    (∀ x y : U32, ∃ t : U64, exec (.hEnt x y) s = .next (s.answer .ok t) ∧
      exec (.hDet t) s = .next (s.answer .ok (x ++ y))) ∧
    (∀ t : U64, ∃ x y : U32, exec (.hDet t) s = .next (s.answer .ok (x ++ y)) ∧
      exec (.hEnt x y) s = .next (s.answer .ok t))

/-- 42_hilbert.md R158 (an inference of the spec from R157): the most-significant-first walk with running
flags computes the same pair for every index. -/
def Obligations.HDetMostSignificantFirst : Prop :=
  ∀ t : U64, hDetangleMsf 4 t (false, false) = hDetangle glcoreTables t

/-! ### The cached decoder -/

/-- R181: C.NEW puts the five cache registers at their reset values, answers (OK, 0) and touches nothing
else; with a non-zero argument it is no command; while `FAULTED = 1` it is refused. -/
def Obligations.CNewRestoresResetCache : Prop :=
  (∀ s : State, s.faulted = false →
    exec .cNew s = .next { s with cHi := 0#48, cBx := 0#32, cBy := 0#32, cSwap := false,
                                  cFlip := false, responses := s.responses ++ [0#4 ++ 0#64] }) ∧
  (∀ s : State, s.faulted = true → exec .cNew s = .next (s.answer .fatal 0#64)) ∧
  (∀ arg : U64, decode (0x30#8 ++ arg) =
    if arg = 0#64 then .ok .cNew else .error (.mustBeZeroSet "C.NEW"))

/-- R180: in every state with `FAULTED = 0` whose cache registers belong to their prefix (the invariant of
10_state.md R26), C.DET answers the data of H.DET and leaves the cache of the new prefix, by the miss
procedure; nothing but the cache registers and the response changes. -/
def Obligations.CDetEqualsHDet : Prop :=
  ∀ (s : State) (t : U64), s.faulted = false → s.cacheOk →
    ∃ (s' : State) (d : U64),
      exec (.hDet t) s = .next (s.answer .ok d) ∧
      exec (.cDet t) s = .next (s'.answer .ok d) ∧
      missProc glcoreTables (t.extractLsb' 16 48) s = .ok s' ∧
      s'.cHi = t.extractLsb' 16 48 ∧ s'.withCacheOf s = s ∧ s'.cacheOk

/-- R183 and R187: a C.DET whose prefix is `C_HI` writes no register, and its answer is the raw byte pair
of `HDET_T`, reflected when `C_FLIP = 1`, then exchanged when `C_SWAP = 1`, placed in bits 7:0 of the
bases. -/
def Obligations.CDetHitAppliesCache : Prop :=
  ∀ (s : State) (t : U64), s.faulted = false → t.extractLsb' 16 48 = s.cHi → s.basesClear →
    ∃ x y : U32, exec (.cDet t) s = .next (s.answer .ok (x ++ y)) ∧
      x &&& 0xFFFFFF00#32 = s.cBx ∧ y &&& 0xFFFFFF00#32 = s.cBy ∧
      (∀ xb yb : U8, hentT xb yb = t.extractLsb' 0 16 →
        (byteOf x 0, byteOf y 0) =
          match s.cFlip, s.cSwap with
          | false, false => (xb, yb)
          | false, true => (yb, xb)
          | true, false => (255#8 - xb, 255#8 - yb)
          | true, true => (255#8 - yb, 255#8 - xb))

/-- R185: the four patterns and their flags; every other pair classifies as nothing. -/
def Obligations.ClassificationTable : Prop :=
  classify 0x0F#8 0x00#8 = some (false, false) ∧ classify 0x00#8 0x0F#8 = some (true, false) ∧
  classify 0xF0#8 0xFF#8 = some (false, true) ∧ classify 0xFF#8 0xF0#8 = some (true, true) ∧
  ∀ a b : U8, (a, b) ∉ [(0x0F#8, 0x00#8), (0x00#8, 0x0F#8), (0xF0#8, 0xFF#8), (0xFF#8, 0xF0#8)] →
    classify a b = none

/-- R186: over any tables (the block's own never come here, 43_cached.md R189), a miss whose sentinel's low
bytes are none of the four patterns sets `FAULTED`, writes `FINFO` with the prefix and the two bytes,
answers (FATAL, FINFO) and writes nothing else; a block left so shows 1 at its `fatal` output. -/
def Obligations.FatalConditionRaised : Prop :=
  ∀ (T : Tables) (s : State) (t : U64) (a b : U8),
    t.extractLsb' 16 48 ≠ s.cHi →
    byteOf (hDetangle T (t.extractLsb' 16 48 ++ 0x00FF#16)).1 0 = a →
    byteOf (hDetangle T (t.extractLsb' 16 48 ++ 0x00FF#16)).2 0 = b →
    (a, b) ∉ [(0x0F#8, 0x00#8), (0x00#8, 0x0F#8), (0xF0#8, 0xFF#8), (0xFF#8, 0xF0#8)] →
    cDetangle T t s =
      .next { s with faulted := true, finfo := t.extractLsb' 16 48 ++ (a ++ b),
                     responses := s.responses ++ [7#4 ++ (t.extractLsb' 16 48 ++ (a ++ b))] } ∧
    (s.enterFault (t.extractLsb' 16 48 ++ (a ++ b))).fatalOut = true

/-- 43_cached.md R189 (an inference of the spec): with the block's tables every prefix classifies, so no
command sets `FAULTED` or writes `FINFO`, from any state with `FAULTED = 0`. -/
def Obligations.FatalConditionDead : Prop :=
  (∀ (hi : BitVec 48) (s : State), ∃ s', missProc glcoreTables hi s = .ok s') ∧
  (∀ (s t : State) (i : Instr), s.faulted = false → exec i s = .next t →
    t.faulted = false ∧ t.finfo = s.finfo)

/-- R190: the sentinel of prefix 0 decodes to (0x0F, 0), and the miss procedure for prefix 0 yields the
all-zero cache registers of the reset state. -/
def Obligations.ResetCacheIsPrefixZero : Prop :=
  hDetangle glcoreTables 0xFF#64 = (0x0F#32, 0#32) ∧
  ∀ s : State, missProc glcoreTables 0#48 s =
    .ok { s with cHi := 0#48, cBx := 0#32, cBy := 0#32, cSwap := false, cFlip := false }

/-! ### The compressor -/

/-- R202 and R203: K.NEW, and K.CAP with any hint, set `K_CUR` to 0, empty the five streams, set OPEN and
end the decompressor, in any phase; the cache, the cursors and `D_CUR` stay. While `FAULTED = 1` both
answer FATAL; K.NEW with a non-zero argument is no command, K.CAP takes every argument. -/
def Obligations.KNewAndKCapEmpty : Prop :=
  (∀ s : State, s.faulted = false →
    exec .kNew s =
      .next { s with kCur := 0#64, phase := .opened, dAct := false,
                     mem := { tag := [], disc := [], o16 := [], o32 := [], o64 := [] },
                     responses := s.responses ++ [0#4 ++ 0#64] } ∧
    ∀ hint : U64, exec (.kCap hint) s =
      .next { s with kCur := 0#64, phase := .opened, dAct := false,
                     mem := { tag := [], disc := [], o16 := [], o32 := [], o64 := [] },
                     responses := s.responses ++ [0#4 ++ 0#64] }) ∧
  (∀ s : State, s.faulted = true →
    exec .kNew s = .next { s with responses := s.responses ++ [7#4 ++ 0#64] } ∧
    ∀ hint : U64,
      exec (.kCap hint) s = .next { s with responses := s.responses ++ [7#4 ++ 0#64] }) ∧
  (∀ arg : U64,
    decode (0x40#8 ++ arg) =
      (if arg = 0#64 then .ok .kNew else .error (.mustBeZeroSet "K.NEW")) ∧
    decode (0x41#8 ++ arg) = .ok (.kCap arg))

/-- R201 and R204: a K.PUSH in phase OPEN with room stores the wrapped delta in its tier, whole, sets
`K_CUR` and answers (OK, 0); no other element and no other register changes. A direct push needs room in
`TAG` only. -/
def Obligations.KPushStoresByTier : Prop :=
  ∀ (s : State) (v delta : U64), s.faulted = false → s.phase = .opened →
    delta.toNat = (v.toNat + 2 ^ 64 - s.kCur.toNat) % 2 ^ 64 →
    s.mem.tag.length < s.caps.tag.toNat →
    (1 ≤ delta.toNat → delta.toNat ≤ 255 →
      exec (.kPush v) s =
        .next { s with mem := { s.mem with tag := s.mem.tag ++ [BitVec.ofNat 8 delta.toNat] },
                       kCur := v, responses := s.responses ++ [0#4 ++ 0#64] }) ∧
    (s.mem.disc.length < s.caps.disc.toNat →
      (delta = 0#64 ∨ (256 ≤ delta.toNat ∧ delta.toNat ≤ 65535) →
        s.mem.o16.length < s.caps.o16.toNat →
        exec (.kPush v) s =
          .next { s with mem := { s.mem with tag := s.mem.tag ++ [0#8],
                                             disc := s.mem.disc ++ [0#2],
                                             o16 := s.mem.o16 ++ [BitVec.ofNat 16 delta.toNat] },
                         kCur := v, responses := s.responses ++ [0#4 ++ 0#64] }) ∧
      (65536 ≤ delta.toNat → delta.toNat ≤ 2 ^ 32 - 1 → s.mem.o32.length < s.caps.o32.toNat →
        exec (.kPush v) s =
          .next { s with mem := { s.mem with tag := s.mem.tag ++ [0#8],
                                             disc := s.mem.disc ++ [1#2],
                                             o32 := s.mem.o32 ++ [BitVec.ofNat 32 delta.toNat] },
                         kCur := v, responses := s.responses ++ [0#4 ++ 0#64] }) ∧
      (2 ^ 32 ≤ delta.toNat → s.mem.o64.length < s.caps.o64.toNat →
        exec (.kPush v) s =
          .next { s with mem := { s.mem with tag := s.mem.tag ++ [0#8],
                                             disc := s.mem.disc ++ [2#2],
                                             o64 := s.mem.o64 ++ [delta] },
                         kCur := v, responses := s.responses ++ [0#4 ++ 0#64] }))

/-- R204, R274 and R275: a K.PUSH in phase SEALED answers PHASE, full streams or not; in phase OPEN it
answers FULL when a stream its tier needs is at capacity; nothing is written, `K_CUR` included. -/
def Obligations.KPushRefusals : Prop :=
  ∀ (s : State) (v : U64), s.faulted = false →
    (s.phase = .sealed →
      exec (.kPush v) s = .next { s with responses := s.responses ++ [3#4 ++ 0#64] }) ∧
    (s.phase = .opened →
      (s.mem.tag.length = s.caps.tag.toNat ∨
        (tierOf (v - s.kCur) ≠ .direct ∧ s.mem.disc.length = s.caps.disc.toNat) ∨
        (tierOf (v - s.kCur) = .w16 ∧ s.mem.o16.length = s.caps.o16.toNat) ∨
        (tierOf (v - s.kCur) = .w32 ∧ s.mem.o32.length = s.caps.o32.toNat) ∨
        (tierOf (v - s.kCur) = .w64 ∧ s.mem.o64.length = s.caps.o64.toNat)) →
      exec (.kPush v) s = .next { s with responses := s.responses ++ [4#4 ++ 0#64] })

/-- R205: K.DONE in phase OPEN sets SEALED and nothing else; in phase SEALED it answers PHASE; while
`FAULTED = 1` it answers FATAL; with a non-zero argument it is no command. -/
def Obligations.KDoneSeals : Prop :=
  (∀ s : State, s.faulted = false → s.phase = .opened →
    exec .kDone s =
      .next { s with phase := .sealed, responses := s.responses ++ [0#4 ++ 0#64] }) ∧
  (∀ s : State, s.faulted = false → s.phase = .sealed →
    exec .kDone s = .next { s with responses := s.responses ++ [3#4 ++ 0#64] }) ∧
  (∀ s : State, s.faulted = true →
    exec .kDone s = .next { s with responses := s.responses ++ [7#4 ++ 0#64] }) ∧
  (∀ arg : U64, decode (0x43#8 ++ arg) =
    if arg = 0#64 then .ok .kDone else .error (.mustBeZeroSet "K.DONE"))

/-- 44_compressor.md R207 (an inference of the spec) over every command but S.APP: the stream invariant of
10_state.md R31 and the element ranges of compressor-made arrays are kept. -/
def Obligations.StreamInvariantKept : Prop :=
  ∀ (s t : State) (i : Instr), isAppend i = false → exec i s = .next t →
    (s.mem.consistent → t.mem.consistent) ∧ (s.mem.compressorMade → t.mem.compressorMade)

/-! ### The decompressor -/

/-- R221: D.START in phase SEALED puts a fresh decompressor at the front of the streams; in phase OPEN it
answers PHASE and writes nothing. -/
def Obligations.DStartFresh : Prop :=
  ∀ s : State, s.faulted = false →
    (s.phase = .sealed → exec .dStart s =
      .next { s with dAct := true, dCur := 0#64, dTp := 0#33, dDp := 0#33, dP16 := 0#33,
                     dP32 := 0#33, dP64 := 0#33, responses := s.responses ++ [0#4 ++ 0#64] }) ∧
    (s.phase = .opened →
      exec .dStart s = .next { s with responses := s.responses ++ [3#4 ++ 0#64] })

/-- R222 for a non-zero tag: D.NEXT adds the tag to `D_CUR` modulo `2^64`, moves `D_TP` on and answers the
new `D_CUR`; no other cursor moves. -/
def Obligations.DNextAddsDirectTag : Prop :=
  ∀ (s : State) (tag : U8), s.faulted = false → s.dAct = true →
    s.mem.tag[s.dTp.toNat]? = some tag → tag ≠ 0#8 →
    exec .dNext s =
      .next { s with dCur := s.dCur + tag.setWidth 64, dTp := s.dTp + 1#33,
                     responses := s.responses ++ [0#4 ++ (s.dCur + tag.setWidth 64)] }

/-- R222 for a zero tag: D.NEXT takes the next discriminator and the next delta of the stream it names,
adds the delta modulo `2^64`, moves the three cursors it used on and answers the new `D_CUR`. -/
def Obligations.DNextAddsOverflowDelta : Prop :=
  ∀ s : State, s.faulted = false → s.dAct = true → s.mem.tag[s.dTp.toNat]? = some 0#8 →
    (∀ d : U16, s.mem.disc[s.dDp.toNat]? = some 0#2 → s.mem.o16[s.dP16.toNat]? = some d →
      exec .dNext s =
        .next { s with dCur := s.dCur + d.setWidth 64, dTp := s.dTp + 1#33, dDp := s.dDp + 1#33,
                       dP16 := s.dP16 + 1#33,
                       responses := s.responses ++ [0#4 ++ (s.dCur + d.setWidth 64)] }) ∧
    (∀ d : U32, s.mem.disc[s.dDp.toNat]? = some 1#2 → s.mem.o32[s.dP32.toNat]? = some d →
      exec .dNext s =
        .next { s with dCur := s.dCur + d.setWidth 64, dTp := s.dTp + 1#33, dDp := s.dDp + 1#33,
                       dP32 := s.dP32 + 1#33,
                       responses := s.responses ++ [0#4 ++ (s.dCur + d.setWidth 64)] }) ∧
    (∀ d : U64, s.mem.disc[s.dDp.toNat]? = some 2#2 → s.mem.o64[s.dP64.toNat]? = some d →
      exec .dNext s =
        .next { s with dCur := s.dCur + d, dTp := s.dTp + 1#33, dDp := s.dDp + 1#33,
                       dP64 := s.dP64 + 1#33,
                       responses := s.responses ++ [0#4 ++ (s.dCur + d)] })

/-- R223 and R274: with every tag consumed D.NEXT answers (END, 0), again and again, and D.HINT 0; with no
active decompressor both answer PHASE; nothing is written. -/
def Obligations.DNextEndOfSequence : Prop :=
  ∀ s : State, s.faulted = false →
    (s.dAct = true → s.dTp.toNat = s.mem.tag.length →
      exec .dNext s = .next { s with responses := s.responses ++ [1#4 ++ 0#64] } ∧
      exec .dHint s = .next { s with responses := s.responses ++ [0#4 ++ 0#64] }) ∧
    (s.dAct = false →
      exec .dNext s = .next { s with responses := s.responses ++ [3#4 ++ 0#64] } ∧
      exec .dHint s = .next { s with responses := s.responses ++ [3#4 ++ 0#64] })

/-- R224 and R278: a zero tag with the discriminators exhausted, with the reserved code 3, or with the
named overflow stream exhausted makes D.NEXT answer (BADSTREAM, 0) and clear `D_ACT`; the cursors and
`D_CUR` stay. -/
def Obligations.DNextBadStream : Prop :=
  ∀ s : State, s.faulted = false → s.dAct = true → s.mem.tag[s.dTp.toNat]? = some 0#8 →
    (s.dDp.toNat = s.mem.disc.length ∨
      s.mem.disc[s.dDp.toNat]? = some 3#2 ∨
      (s.mem.disc[s.dDp.toNat]? = some 0#2 ∧ s.dP16.toNat = s.mem.o16.length) ∨
      (s.mem.disc[s.dDp.toNat]? = some 1#2 ∧ s.dP32.toNat = s.mem.o32.length) ∨
      (s.mem.disc[s.dDp.toNat]? = some 2#2 ∧ s.dP64.toNat = s.mem.o64.length)) →
    exec .dNext s =
      .next { s with dAct := false, responses := s.responses ++ [6#4 ++ 0#64] }

/-- R225: D.HINT answers exactly `LEN[0] - D_TP` and writes nothing; with no active decompressor it
answers PHASE. -/
def Obligations.DHintCountsRemaining : Prop :=
  ∀ s : State, s.faulted = false →
    (s.dAct = true → s.dTp.toNat ≤ s.mem.tag.length → s.mem.tag.length ≤ 2 ^ 32 →
      ∃ d : U64, exec .dHint s = .next { s with responses := s.responses ++ [0#4 ++ d] } ∧
        d.toNat + s.dTp.toNat = s.mem.tag.length ∧ d.toNat ≤ 2 ^ 32) ∧
    (s.dAct = false →
      exec .dHint s = .next { s with responses := s.responses ++ [3#4 ++ 0#64] })

/-! ### Streams and system registers -/

/-- R241: S.LD.s answers the element at `idx`, zero-extended, and RANGE at or beyond the length; in either
phase; nothing is written. -/
def Obligations.SLdReadsElement : Prop :=
  ∀ (s : State) (idx : U32), s.faulted = false →
    (∀ v, s.mem.tag[idx.toNat]? = some v →
      exec (.sLdTag idx) s = .next (s.answer .ok (v.setWidth 64))) ∧
    (∀ v, s.mem.disc[idx.toNat]? = some v →
      exec (.sLdDisc idx) s = .next (s.answer .ok (v.setWidth 64))) ∧
    (∀ v, s.mem.o16[idx.toNat]? = some v →
      exec (.sLdO16 idx) s = .next (s.answer .ok (v.setWidth 64))) ∧
    (∀ v, s.mem.o32[idx.toNat]? = some v →
      exec (.sLdO32 idx) s = .next (s.answer .ok (v.setWidth 64))) ∧
    (∀ v, s.mem.o64[idx.toNat]? = some v →
      exec (.sLdO64 idx) s = .next (s.answer .ok v)) ∧
    (s.mem.tag.length ≤ idx.toNat → exec (.sLdTag idx) s = .next (s.answer .range 0#64)) ∧
    (s.mem.disc.length ≤ idx.toNat → exec (.sLdDisc idx) s = .next (s.answer .range 0#64)) ∧
    (s.mem.o16.length ≤ idx.toNat → exec (.sLdO16 idx) s = .next (s.answer .range 0#64)) ∧
    (s.mem.o32.length ≤ idx.toNat → exec (.sLdO32 idx) s = .next (s.answer .range 0#64)) ∧
    (s.mem.o64.length ≤ idx.toNat → exec (.sLdO64 idx) s = .next (s.answer .range 0#64))

/-- R242: S.LEN.s answers `LEN[s]` and writes nothing, in either phase. -/
def Obligations.SLenReadsLength : Prop :=
  ∀ s : State, s.faulted = false →
    exec .sLenTag s = .next (s.answer .ok (BitVec.ofNat 64 s.mem.tag.length)) ∧
    exec .sLenDisc s = .next (s.answer .ok (BitVec.ofNat 64 s.mem.disc.length)) ∧
    exec .sLenO16 s = .next (s.answer .ok (BitVec.ofNat 64 s.mem.o16.length)) ∧
    exec .sLenO32 s = .next (s.answer .ok (BitVec.ofNat 64 s.mem.o32.length)) ∧
    exec .sLenO64 s = .next (s.answer .ok (BitVec.ofNat 64 s.mem.o64.length))

/-- R243: S.APP.s in phase OPEN with room appends the element to its stream and answers (OK, 0); no other
stream changes and `K_CUR` stays. -/
def Obligations.SAppAppendsElement : Prop :=
  ∀ s : State, s.faulted = false → s.phase = .opened →
    (∀ v : U8, s.mem.tag.length < s.caps.tag.toNat → exec (.sAppTag v) s =
      .next { s with mem := { s.mem with tag := s.mem.tag ++ [v] },
                     responses := s.responses ++ [0#4 ++ 0#64] }) ∧
    (∀ v : BitVec 2, s.mem.disc.length < s.caps.disc.toNat → exec (.sAppDisc v) s =
      .next { s with mem := { s.mem with disc := s.mem.disc ++ [v] },
                     responses := s.responses ++ [0#4 ++ 0#64] }) ∧
    (∀ v : U16, s.mem.o16.length < s.caps.o16.toNat → exec (.sAppO16 v) s =
      .next { s with mem := { s.mem with o16 := s.mem.o16 ++ [v] },
                     responses := s.responses ++ [0#4 ++ 0#64] }) ∧
    (∀ v : U32, s.mem.o32.length < s.caps.o32.toNat → exec (.sAppO32 v) s =
      .next { s with mem := { s.mem with o32 := s.mem.o32 ++ [v] },
                     responses := s.responses ++ [0#4 ++ 0#64] }) ∧
    (∀ v : U64, s.mem.o64.length < s.caps.o64.toNat → exec (.sAppO64 v) s =
      .next { s with mem := { s.mem with o64 := s.mem.o64 ++ [v] },
                     responses := s.responses ++ [0#4 ++ 0#64] })

/-- R243, R274 and R275: S.APP.s in phase SEALED answers PHASE, at capacity or not; in phase OPEN at
capacity it answers FULL; nothing is written. -/
def Obligations.SAppRefusals : Prop :=
  ∀ s : State, s.faulted = false →
    (s.phase = .sealed → ∀ i : Instr, isAppend i = true →
      exec i s = .next { s with responses := s.responses ++ [3#4 ++ 0#64] }) ∧
    (s.phase = .opened →
      (s.mem.tag.length = s.caps.tag.toNat → ∀ v,
        exec (.sAppTag v) s = .next { s with responses := s.responses ++ [4#4 ++ 0#64] }) ∧
      (s.mem.disc.length = s.caps.disc.toNat → ∀ v,
        exec (.sAppDisc v) s = .next { s with responses := s.responses ++ [4#4 ++ 0#64] }) ∧
      (s.mem.o16.length = s.caps.o16.toNat → ∀ v,
        exec (.sAppO16 v) s = .next { s with responses := s.responses ++ [4#4 ++ 0#64] }) ∧
      (s.mem.o32.length = s.caps.o32.toNat → ∀ v,
        exec (.sAppO32 v) s = .next { s with responses := s.responses ++ [4#4 ++ 0#64] }) ∧
      (s.mem.o64.length = s.caps.o64.toNat → ∀ v,
        exec (.sAppO64 v) s = .next { s with responses := s.responses ++ [4#4 ++ 0#64] }))

/-- R39, R40 and R244: S.RD answers the register's 64-bit value, and ILLEGAL for a number that is not
implemented, whether or not `FAULTED = 1`; nothing is written. The capacities are constants: no command
changes them. -/
def Obligations.SRdReadsWindow : Prop :=
  ∀ s : State,
    exec (.sRd 0x00#8) s = .next (s.answer .ok 0x474C433100000007#64) ∧
    (∃ d : U64, exec (.sRd 0x01#8) s = .next (s.answer .ok d) ∧
      d.toNat = (if s.phase = .sealed then 1 else 0) + (if s.dAct then 2 else 0) +
        (if s.faulted then 4 else 0)) ∧
    exec (.sRd 0x02#8) s = .next (s.answer .ok s.kCur) ∧
    exec (.sRd 0x03#8) s = .next (s.answer .ok (s.cHi.setWidth 64)) ∧
    exec (.sRd 0x04#8) s = .next (s.answer .ok (s.cBx ++ s.cBy)) ∧
    (∃ d : U64, exec (.sRd 0x05#8) s = .next (s.answer .ok d) ∧
      d.toNat = (if s.cSwap then 1 else 0) + (if s.cFlip then 2 else 0)) ∧
    exec (.sRd 0x06#8) s = .next (s.answer .ok s.dCur) ∧
    exec (.sRd 0x07#8) s = .next (s.answer .ok (s.dTp.setWidth 64)) ∧
    exec (.sRd 0x08#8) s = .next (s.answer .ok (s.dDp.setWidth 64)) ∧
    exec (.sRd 0x09#8) s = .next (s.answer .ok (s.dP16.setWidth 64)) ∧
    exec (.sRd 0x0A#8) s = .next (s.answer .ok (s.dP32.setWidth 64)) ∧
    exec (.sRd 0x0B#8) s = .next (s.answer .ok (s.dP64.setWidth 64)) ∧
    exec (.sRd 0x0C#8) s = .next (s.answer .ok s.finfo) ∧
    exec (.sRd 0x10#8) s = .next (s.answer .ok (s.caps.tag.setWidth 64)) ∧
    exec (.sRd 0x11#8) s = .next (s.answer .ok (s.caps.disc.setWidth 64)) ∧
    exec (.sRd 0x12#8) s = .next (s.answer .ok (s.caps.o16.setWidth 64)) ∧
    exec (.sRd 0x13#8) s = .next (s.answer .ok (s.caps.o32.setWidth 64)) ∧
    exec (.sRd 0x14#8) s = .next (s.answer .ok (s.caps.o64.setWidth 64)) ∧
    (∀ n : U8, (0x0D ≤ n.toNat ∧ n.toNat ≤ 0x0F) ∨ 0x15 ≤ n.toNat →
      exec (.sRd n) s = .next (s.answer .illegal 0#64)) ∧
    (∀ (i : Instr) (t : State), exec i s = .next t → t.caps = s.caps)

/-! ### Runs of commands -/

/-- 46_streams_sysreg.md R245 (an inference of the spec): K.NEW, the five saved arrays through S.APP in
index order and K.DONE, issued to any block that is not FAULTED and has room, rebuild exactly the saved
form, sealed, with `K_CUR` 0, every command answered (OK, 0). -/
def Obligations.RestoreRebuildsStreams : Prop :=
  ∀ (s : State) (saved : Memory), s.faulted = false → saved.wf s.caps = true →
    ∃ t, Sys2Proof.core.run
        (saved.tag.length + saved.disc.length + saved.o16.length + saved.o32.length +
          saved.o64.length + 2)
        (s.issue ([.kNew] ++ saved.tag.map .sAppTag ++ saved.disc.map .sAppDisc ++
          saved.o16.map .sAppO16 ++ saved.o32.map .sAppO32 ++ saved.o64.map .sAppO64 ++
          [.kDone])) = .next t ∧
      t.mem = saved ∧ t.phase = .sealed ∧ t.kCur = 0#64 ∧ t.inputs = [] ∧
      t.responses = s.responses ++
        List.replicate (saved.tag.length + saved.disc.length + saved.o16.length +
          saved.o32.length + saved.o64.length + 2) (0#4 ++ 0#64)

/-- 45_decompressor.md R226 (an inference of the spec): any sequence of values, increasing or not, that
fits the streams is pushed, sealed and read back in order, and then the sequence ends. -/
def Obligations.CodecRoundTrip : Prop :=
  ∀ (s : State) (vs : List U64), s.faulted = false → s.caps.ok = true → capsFit s.caps vs →
    ∃ t, Sys2Proof.core.run (2 * vs.length + 4)
        (s.issue ([.kNew] ++ vs.map .kPush ++ [.kDone, .dStart] ++
          List.replicate (vs.length + 1) .dNext)) = .next t ∧
      t.inputs = [] ∧
      t.responses = s.responses ++ List.replicate (vs.length + 3) (0#4 ++ 0#64) ++
        vs.map (fun v => 0#4 ++ v) ++ [1#4 ++ 0#64]

/-- 45_decompressor.md R223 with 10_state.md R31: over consistent sealed arrays D.START and then D.NEXT
answer OK exactly `LEN[0]` times and then END, the decompressor still active. -/
def Obligations.ConsistentFormYieldsAll : Prop :=
  ∀ s : State, s.faulted = false → s.phase = .sealed → s.caps.ok = true →
    s.mem.wf s.caps = true → s.mem.consistent →
    ∃ (t : State) (vs : List U64), vs.length = s.mem.tag.length ∧
      Sys2Proof.core.run (s.mem.tag.length + 2)
        (s.issue ([.dStart] ++ List.replicate (s.mem.tag.length + 1) .dNext)) = .next t ∧
      t.dAct = true ∧
      t.responses = s.responses ++ [0#4 ++ 0#64] ++ vs.map (fun v => 0#4 ++ v) ++ [1#4 ++ 0#64]
end

