-- ==== Sys2Proof/Laws/Memory.lean ====
section
/-! SUPPORT. The laws of the stream memories: what an append does to the lengths and to every element, and
that every memory operation keeps the memory's form. -/

namespace Sys2Proof.Machine

/-- The values that fit an element of the stream. -/
theorem lowBits_zext64 {w : Nat} (h : w ≤ 64) (v : BitVec w) : lowBits w (zext64 v) = v := by
  simp only [lowBits, zext64]
  rw [BitVec.setWidth_setWidth_of_le _ h, BitVec.setWidth_eq]

@[simp] theorem Memory.empty_len (st : Stream) : Memory.empty.len st = 0 := by cases st <;> rfl

/-- An append makes its own stream one longer and leaves the other four (10_state.md R30). -/
@[simp] theorem Memory.append_len (m : Memory) (st st' : Stream) (v : U64) :
    (m.append st v).len st' = m.len st' + if st' = st then 1 else 0 := by
  cases st <;> cases st' <;> simp [Memory.append, Memory.len]

/-- A stream has an element exactly below its length (10_state.md R32). -/
theorem Memory.read_eq_none_iff (m : Memory) (st : Stream) (i : Nat) :
    m.read st i = none ↔ m.len st ≤ i := by
  cases st <;> simp [Memory.read, Memory.len]

/-- An append leaves every element of every stream that was there before it. -/
theorem Memory.read_append_of_lt (m : Memory) (st st' : Stream) (v : U64) (i : Nat)
    (h : i < m.len st') : (m.append st v).read st' i = m.read st' i := by
  cases st <;> cases st' <;> simp_all [Memory.append, Memory.read, Memory.len, List.getElem?_append_left]

/-- The appended element stands at the old length. -/
theorem Memory.read_append_self (m : Memory) (st : Stream) (v : U64) (h : v.toNat < 2 ^ st.width) :
    (m.append st v).read st (m.len st) = some v := by
  have hz : ∀ w : Nat, v.toNat < 2 ^ w → zext64 (lowBits w v) = v := by
    intro w hw
    apply BitVec.eq_of_toNat_eq
    have hv := v.isLt
    simp [zext64, lowBits, BitVec.toNat_setWidth, Nat.mod_eq_of_lt hw, Nat.mod_eq_of_lt hv]
  cases st <;> simp_all [Memory.append, Memory.read, Memory.len, Stream.width]

/-- The form of the memory, stream by stream. -/
theorem Memory.wf_iff (c : Caps) (m : Memory) :
    m.wf c = true ↔ ∀ st, m.len st ≤ (c.get st).toNat := by
  constructor
  · intro h st
    simp only [Memory.wf, Bool.and_eq_true, decide_eq_true_eq] at h
    cases st <;> simp only [Caps.get] <;> tauto
  · intro h
    simp only [Memory.wf, Bool.and_eq_true, decide_eq_true_eq]
    exact ⟨⟨⟨⟨h .tag, h .disc⟩, h .o16⟩, h .o32⟩, h .o64⟩

/-- The empty memory is in form under any capacities. -/
theorem Memory.empty_wf (c : Caps) : Memory.empty.wf c = true :=
  (Memory.wf_iff c _).2 fun st => by simp

/-- An append to a stream that is not full keeps the form. -/
theorem Memory.append_wf (c : Caps) (m : Memory) (st : Stream) (v : U64)
    (h : m.wf c = true) (hroom : m.len st < (c.get st).toNat) : (m.append st v).wf c = true := by
  rw [Memory.wf_iff] at h ⊢
  intro st'
  have := h st'
  rw [Memory.append_len]
  split
  · subst_vars
    omega
  · omega

/-- The memory at reset is in form. -/
theorem State.reset_mem_wf : State.reset.mem.wf State.reset.caps = true := Memory.empty_wf _

/-- A stream that is not full has room. -/
theorem State.isFull_eq_false_iff (s : State) (st : Stream) :
    s.isFull st = false ↔ s.mem.len st < (s.caps.get st).toNat := by
  simp [State.isFull]

end Sys2Proof.Machine
end

