-- ==== Sys2Proof/Laws/State.lean ====
section
/-! SUPPORT. One lemma per field per named update of the state, true by `rfl`, so that no proof unfolds a
record update. -/

namespace Sys2Proof.Machine

@[simp] theorem State.answer_inputs (s : State) (st : Status) (d : U64) :
    (s.answer st d).inputs = s.inputs := rfl
@[simp] theorem State.answer_responses (s : State) (st : Status) (d : U64) :
    (s.answer st d).responses = s.responses ++ [responseWord st d] := rfl
@[simp] theorem State.answer_caps (s : State) (st : Status) (d : U64) :
    (s.answer st d).caps = s.caps := rfl
@[simp] theorem State.answer_cHi (s : State) (st : Status) (d : U64) :
    (s.answer st d).cHi = s.cHi := rfl
@[simp] theorem State.answer_cBx (s : State) (st : Status) (d : U64) :
    (s.answer st d).cBx = s.cBx := rfl
@[simp] theorem State.answer_cBy (s : State) (st : Status) (d : U64) :
    (s.answer st d).cBy = s.cBy := rfl
@[simp] theorem State.answer_cSwap (s : State) (st : Status) (d : U64) :
    (s.answer st d).cSwap = s.cSwap := rfl
@[simp] theorem State.answer_cFlip (s : State) (st : Status) (d : U64) :
    (s.answer st d).cFlip = s.cFlip := rfl
@[simp] theorem State.answer_faulted (s : State) (st : Status) (d : U64) :
    (s.answer st d).faulted = s.faulted := rfl
@[simp] theorem State.answer_finfo (s : State) (st : Status) (d : U64) :
    (s.answer st d).finfo = s.finfo := rfl
@[simp] theorem State.answer_kCur (s : State) (st : Status) (d : U64) :
    (s.answer st d).kCur = s.kCur := rfl
@[simp] theorem State.answer_phase (s : State) (st : Status) (d : U64) :
    (s.answer st d).phase = s.phase := rfl
@[simp] theorem State.answer_mem (s : State) (st : Status) (d : U64) :
    (s.answer st d).mem = s.mem := rfl
@[simp] theorem State.answer_dAct (s : State) (st : Status) (d : U64) :
    (s.answer st d).dAct = s.dAct := rfl
@[simp] theorem State.answer_dCur (s : State) (st : Status) (d : U64) :
    (s.answer st d).dCur = s.dCur := rfl
@[simp] theorem State.answer_dTp (s : State) (st : Status) (d : U64) :
    (s.answer st d).dTp = s.dTp := rfl
@[simp] theorem State.answer_dDp (s : State) (st : Status) (d : U64) :
    (s.answer st d).dDp = s.dDp := rfl
@[simp] theorem State.answer_dP16 (s : State) (st : Status) (d : U64) :
    (s.answer st d).dP16 = s.dP16 := rfl
@[simp] theorem State.answer_dP32 (s : State) (st : Status) (d : U64) :
    (s.answer st d).dP32 = s.dP32 := rfl
@[simp] theorem State.answer_dP64 (s : State) (st : Status) (d : U64) :
    (s.answer st d).dP64 = s.dP64 := rfl

@[simp] theorem State.enterFault_inputs (s : State) (d : U64) :
    (s.enterFault d).inputs = s.inputs := rfl
@[simp] theorem State.enterFault_responses (s : State) (d : U64) :
    (s.enterFault d).responses = s.responses := rfl
@[simp] theorem State.enterFault_caps (s : State) (d : U64) :
    (s.enterFault d).caps = s.caps := rfl
@[simp] theorem State.enterFault_cHi (s : State) (d : U64) :
    (s.enterFault d).cHi = s.cHi := rfl
@[simp] theorem State.enterFault_cBx (s : State) (d : U64) :
    (s.enterFault d).cBx = s.cBx := rfl
@[simp] theorem State.enterFault_cBy (s : State) (d : U64) :
    (s.enterFault d).cBy = s.cBy := rfl
@[simp] theorem State.enterFault_cSwap (s : State) (d : U64) :
    (s.enterFault d).cSwap = s.cSwap := rfl
@[simp] theorem State.enterFault_cFlip (s : State) (d : U64) :
    (s.enterFault d).cFlip = s.cFlip := rfl
@[simp] theorem State.enterFault_faulted (s : State) (d : U64) :
    (s.enterFault d).faulted = true := rfl
@[simp] theorem State.enterFault_finfo (s : State) (d : U64) :
    (s.enterFault d).finfo = d := rfl
@[simp] theorem State.enterFault_kCur (s : State) (d : U64) :
    (s.enterFault d).kCur = s.kCur := rfl
@[simp] theorem State.enterFault_phase (s : State) (d : U64) :
    (s.enterFault d).phase = s.phase := rfl
@[simp] theorem State.enterFault_mem (s : State) (d : U64) :
    (s.enterFault d).mem = s.mem := rfl
@[simp] theorem State.enterFault_dAct (s : State) (d : U64) :
    (s.enterFault d).dAct = s.dAct := rfl
@[simp] theorem State.enterFault_dCur (s : State) (d : U64) :
    (s.enterFault d).dCur = s.dCur := rfl
@[simp] theorem State.enterFault_dTp (s : State) (d : U64) :
    (s.enterFault d).dTp = s.dTp := rfl
@[simp] theorem State.enterFault_dDp (s : State) (d : U64) :
    (s.enterFault d).dDp = s.dDp := rfl
@[simp] theorem State.enterFault_dP16 (s : State) (d : U64) :
    (s.enterFault d).dP16 = s.dP16 := rfl
@[simp] theorem State.enterFault_dP32 (s : State) (d : U64) :
    (s.enterFault d).dP32 = s.dP32 := rfl
@[simp] theorem State.enterFault_dP64 (s : State) (d : U64) :
    (s.enterFault d).dP64 = s.dP64 := rfl

@[simp] theorem State.setCache_inputs (s : State) (hi : BitVec 48) (bx yy : U32) (sw fl : Bool) :
    (s.setCache hi bx yy sw fl).inputs = s.inputs := rfl
@[simp] theorem State.setCache_responses (s : State) (hi : BitVec 48) (bx yy : U32) (sw fl : Bool) :
    (s.setCache hi bx yy sw fl).responses = s.responses := rfl
@[simp] theorem State.setCache_caps (s : State) (hi : BitVec 48) (bx yy : U32) (sw fl : Bool) :
    (s.setCache hi bx yy sw fl).caps = s.caps := rfl
@[simp] theorem State.setCache_cHi (s : State) (hi : BitVec 48) (bx yy : U32) (sw fl : Bool) :
    (s.setCache hi bx yy sw fl).cHi = hi := rfl
@[simp] theorem State.setCache_cBx (s : State) (hi : BitVec 48) (bx yy : U32) (sw fl : Bool) :
    (s.setCache hi bx yy sw fl).cBx = bx := rfl
@[simp] theorem State.setCache_cBy (s : State) (hi : BitVec 48) (bx yy : U32) (sw fl : Bool) :
    (s.setCache hi bx yy sw fl).cBy = yy := rfl
@[simp] theorem State.setCache_cSwap (s : State) (hi : BitVec 48) (bx yy : U32) (sw fl : Bool) :
    (s.setCache hi bx yy sw fl).cSwap = sw := rfl
@[simp] theorem State.setCache_cFlip (s : State) (hi : BitVec 48) (bx yy : U32) (sw fl : Bool) :
    (s.setCache hi bx yy sw fl).cFlip = fl := rfl
@[simp] theorem State.setCache_faulted (s : State) (hi : BitVec 48) (bx yy : U32) (sw fl : Bool) :
    (s.setCache hi bx yy sw fl).faulted = s.faulted := rfl
@[simp] theorem State.setCache_finfo (s : State) (hi : BitVec 48) (bx yy : U32) (sw fl : Bool) :
    (s.setCache hi bx yy sw fl).finfo = s.finfo := rfl
@[simp] theorem State.setCache_kCur (s : State) (hi : BitVec 48) (bx yy : U32) (sw fl : Bool) :
    (s.setCache hi bx yy sw fl).kCur = s.kCur := rfl
@[simp] theorem State.setCache_phase (s : State) (hi : BitVec 48) (bx yy : U32) (sw fl : Bool) :
    (s.setCache hi bx yy sw fl).phase = s.phase := rfl
@[simp] theorem State.setCache_mem (s : State) (hi : BitVec 48) (bx yy : U32) (sw fl : Bool) :
    (s.setCache hi bx yy sw fl).mem = s.mem := rfl
@[simp] theorem State.setCache_dAct (s : State) (hi : BitVec 48) (bx yy : U32) (sw fl : Bool) :
    (s.setCache hi bx yy sw fl).dAct = s.dAct := rfl
@[simp] theorem State.setCache_dCur (s : State) (hi : BitVec 48) (bx yy : U32) (sw fl : Bool) :
    (s.setCache hi bx yy sw fl).dCur = s.dCur := rfl
@[simp] theorem State.setCache_dTp (s : State) (hi : BitVec 48) (bx yy : U32) (sw fl : Bool) :
    (s.setCache hi bx yy sw fl).dTp = s.dTp := rfl
@[simp] theorem State.setCache_dDp (s : State) (hi : BitVec 48) (bx yy : U32) (sw fl : Bool) :
    (s.setCache hi bx yy sw fl).dDp = s.dDp := rfl
@[simp] theorem State.setCache_dP16 (s : State) (hi : BitVec 48) (bx yy : U32) (sw fl : Bool) :
    (s.setCache hi bx yy sw fl).dP16 = s.dP16 := rfl
@[simp] theorem State.setCache_dP32 (s : State) (hi : BitVec 48) (bx yy : U32) (sw fl : Bool) :
    (s.setCache hi bx yy sw fl).dP32 = s.dP32 := rfl
@[simp] theorem State.setCache_dP64 (s : State) (hi : BitVec 48) (bx yy : U32) (sw fl : Bool) :
    (s.setCache hi bx yy sw fl).dP64 = s.dP64 := rfl

@[simp] theorem State.append_inputs (s : State) (st : Stream) (v : U64) :
    (s.append st v).inputs = s.inputs := rfl
@[simp] theorem State.append_responses (s : State) (st : Stream) (v : U64) :
    (s.append st v).responses = s.responses := rfl
@[simp] theorem State.append_caps (s : State) (st : Stream) (v : U64) :
    (s.append st v).caps = s.caps := rfl
@[simp] theorem State.append_cHi (s : State) (st : Stream) (v : U64) :
    (s.append st v).cHi = s.cHi := rfl
@[simp] theorem State.append_cBx (s : State) (st : Stream) (v : U64) :
    (s.append st v).cBx = s.cBx := rfl
@[simp] theorem State.append_cBy (s : State) (st : Stream) (v : U64) :
    (s.append st v).cBy = s.cBy := rfl
@[simp] theorem State.append_cSwap (s : State) (st : Stream) (v : U64) :
    (s.append st v).cSwap = s.cSwap := rfl
@[simp] theorem State.append_cFlip (s : State) (st : Stream) (v : U64) :
    (s.append st v).cFlip = s.cFlip := rfl
@[simp] theorem State.append_faulted (s : State) (st : Stream) (v : U64) :
    (s.append st v).faulted = s.faulted := rfl
@[simp] theorem State.append_finfo (s : State) (st : Stream) (v : U64) :
    (s.append st v).finfo = s.finfo := rfl
@[simp] theorem State.append_kCur (s : State) (st : Stream) (v : U64) :
    (s.append st v).kCur = s.kCur := rfl
@[simp] theorem State.append_phase (s : State) (st : Stream) (v : U64) :
    (s.append st v).phase = s.phase := rfl
@[simp] theorem State.append_mem (s : State) (st : Stream) (v : U64) :
    (s.append st v).mem = s.mem.append st v := rfl
@[simp] theorem State.append_dAct (s : State) (st : Stream) (v : U64) :
    (s.append st v).dAct = s.dAct := rfl
@[simp] theorem State.append_dCur (s : State) (st : Stream) (v : U64) :
    (s.append st v).dCur = s.dCur := rfl
@[simp] theorem State.append_dTp (s : State) (st : Stream) (v : U64) :
    (s.append st v).dTp = s.dTp := rfl
@[simp] theorem State.append_dDp (s : State) (st : Stream) (v : U64) :
    (s.append st v).dDp = s.dDp := rfl
@[simp] theorem State.append_dP16 (s : State) (st : Stream) (v : U64) :
    (s.append st v).dP16 = s.dP16 := rfl
@[simp] theorem State.append_dP32 (s : State) (st : Stream) (v : U64) :
    (s.append st v).dP32 = s.dP32 := rfl
@[simp] theorem State.append_dP64 (s : State) (st : Stream) (v : U64) :
    (s.append st v).dP64 = s.dP64 := rfl

@[simp] theorem State.newCompressor_inputs (s : State) :
    (s.newCompressor).inputs = s.inputs := rfl
@[simp] theorem State.newCompressor_responses (s : State) :
    (s.newCompressor).responses = s.responses := rfl
@[simp] theorem State.newCompressor_caps (s : State) :
    (s.newCompressor).caps = s.caps := rfl
@[simp] theorem State.newCompressor_cHi (s : State) :
    (s.newCompressor).cHi = s.cHi := rfl
@[simp] theorem State.newCompressor_cBx (s : State) :
    (s.newCompressor).cBx = s.cBx := rfl
@[simp] theorem State.newCompressor_cBy (s : State) :
    (s.newCompressor).cBy = s.cBy := rfl
@[simp] theorem State.newCompressor_cSwap (s : State) :
    (s.newCompressor).cSwap = s.cSwap := rfl
@[simp] theorem State.newCompressor_cFlip (s : State) :
    (s.newCompressor).cFlip = s.cFlip := rfl
@[simp] theorem State.newCompressor_faulted (s : State) :
    (s.newCompressor).faulted = s.faulted := rfl
@[simp] theorem State.newCompressor_finfo (s : State) :
    (s.newCompressor).finfo = s.finfo := rfl
@[simp] theorem State.newCompressor_kCur (s : State) :
    (s.newCompressor).kCur = 0#64 := rfl
@[simp] theorem State.newCompressor_phase (s : State) :
    (s.newCompressor).phase = .opened := rfl
@[simp] theorem State.newCompressor_mem (s : State) :
    (s.newCompressor).mem = Memory.empty := rfl
@[simp] theorem State.newCompressor_dAct (s : State) :
    (s.newCompressor).dAct = false := rfl
@[simp] theorem State.newCompressor_dCur (s : State) :
    (s.newCompressor).dCur = s.dCur := rfl
@[simp] theorem State.newCompressor_dTp (s : State) :
    (s.newCompressor).dTp = s.dTp := rfl
@[simp] theorem State.newCompressor_dDp (s : State) :
    (s.newCompressor).dDp = s.dDp := rfl
@[simp] theorem State.newCompressor_dP16 (s : State) :
    (s.newCompressor).dP16 = s.dP16 := rfl
@[simp] theorem State.newCompressor_dP32 (s : State) :
    (s.newCompressor).dP32 = s.dP32 := rfl
@[simp] theorem State.newCompressor_dP64 (s : State) :
    (s.newCompressor).dP64 = s.dP64 := rfl

@[simp] theorem State.setKCur_inputs (s : State) (v : U64) :
    (s.setKCur v).inputs = s.inputs := rfl
@[simp] theorem State.setKCur_responses (s : State) (v : U64) :
    (s.setKCur v).responses = s.responses := rfl
@[simp] theorem State.setKCur_caps (s : State) (v : U64) :
    (s.setKCur v).caps = s.caps := rfl
@[simp] theorem State.setKCur_cHi (s : State) (v : U64) :
    (s.setKCur v).cHi = s.cHi := rfl
@[simp] theorem State.setKCur_cBx (s : State) (v : U64) :
    (s.setKCur v).cBx = s.cBx := rfl
@[simp] theorem State.setKCur_cBy (s : State) (v : U64) :
    (s.setKCur v).cBy = s.cBy := rfl
@[simp] theorem State.setKCur_cSwap (s : State) (v : U64) :
    (s.setKCur v).cSwap = s.cSwap := rfl
@[simp] theorem State.setKCur_cFlip (s : State) (v : U64) :
    (s.setKCur v).cFlip = s.cFlip := rfl
@[simp] theorem State.setKCur_faulted (s : State) (v : U64) :
    (s.setKCur v).faulted = s.faulted := rfl
@[simp] theorem State.setKCur_finfo (s : State) (v : U64) :
    (s.setKCur v).finfo = s.finfo := rfl
@[simp] theorem State.setKCur_kCur (s : State) (v : U64) :
    (s.setKCur v).kCur = v := rfl
@[simp] theorem State.setKCur_phase (s : State) (v : U64) :
    (s.setKCur v).phase = s.phase := rfl
@[simp] theorem State.setKCur_mem (s : State) (v : U64) :
    (s.setKCur v).mem = s.mem := rfl
@[simp] theorem State.setKCur_dAct (s : State) (v : U64) :
    (s.setKCur v).dAct = s.dAct := rfl
@[simp] theorem State.setKCur_dCur (s : State) (v : U64) :
    (s.setKCur v).dCur = s.dCur := rfl
@[simp] theorem State.setKCur_dTp (s : State) (v : U64) :
    (s.setKCur v).dTp = s.dTp := rfl
@[simp] theorem State.setKCur_dDp (s : State) (v : U64) :
    (s.setKCur v).dDp = s.dDp := rfl
@[simp] theorem State.setKCur_dP16 (s : State) (v : U64) :
    (s.setKCur v).dP16 = s.dP16 := rfl
@[simp] theorem State.setKCur_dP32 (s : State) (v : U64) :
    (s.setKCur v).dP32 = s.dP32 := rfl
@[simp] theorem State.setKCur_dP64 (s : State) (v : U64) :
    (s.setKCur v).dP64 = s.dP64 := rfl

@[simp] theorem State.sealPhase_inputs (s : State) :
    (s.sealPhase).inputs = s.inputs := rfl
@[simp] theorem State.sealPhase_responses (s : State) :
    (s.sealPhase).responses = s.responses := rfl
@[simp] theorem State.sealPhase_caps (s : State) :
    (s.sealPhase).caps = s.caps := rfl
@[simp] theorem State.sealPhase_cHi (s : State) :
    (s.sealPhase).cHi = s.cHi := rfl
@[simp] theorem State.sealPhase_cBx (s : State) :
    (s.sealPhase).cBx = s.cBx := rfl
@[simp] theorem State.sealPhase_cBy (s : State) :
    (s.sealPhase).cBy = s.cBy := rfl
@[simp] theorem State.sealPhase_cSwap (s : State) :
    (s.sealPhase).cSwap = s.cSwap := rfl
@[simp] theorem State.sealPhase_cFlip (s : State) :
    (s.sealPhase).cFlip = s.cFlip := rfl
@[simp] theorem State.sealPhase_faulted (s : State) :
    (s.sealPhase).faulted = s.faulted := rfl
@[simp] theorem State.sealPhase_finfo (s : State) :
    (s.sealPhase).finfo = s.finfo := rfl
@[simp] theorem State.sealPhase_kCur (s : State) :
    (s.sealPhase).kCur = s.kCur := rfl
@[simp] theorem State.sealPhase_phase (s : State) :
    (s.sealPhase).phase = .sealed := rfl
@[simp] theorem State.sealPhase_mem (s : State) :
    (s.sealPhase).mem = s.mem := rfl
@[simp] theorem State.sealPhase_dAct (s : State) :
    (s.sealPhase).dAct = s.dAct := rfl
@[simp] theorem State.sealPhase_dCur (s : State) :
    (s.sealPhase).dCur = s.dCur := rfl
@[simp] theorem State.sealPhase_dTp (s : State) :
    (s.sealPhase).dTp = s.dTp := rfl
@[simp] theorem State.sealPhase_dDp (s : State) :
    (s.sealPhase).dDp = s.dDp := rfl
@[simp] theorem State.sealPhase_dP16 (s : State) :
    (s.sealPhase).dP16 = s.dP16 := rfl
@[simp] theorem State.sealPhase_dP32 (s : State) :
    (s.sealPhase).dP32 = s.dP32 := rfl
@[simp] theorem State.sealPhase_dP64 (s : State) :
    (s.sealPhase).dP64 = s.dP64 := rfl

@[simp] theorem State.startDecompressor_inputs (s : State) :
    (s.startDecompressor).inputs = s.inputs := rfl
@[simp] theorem State.startDecompressor_responses (s : State) :
    (s.startDecompressor).responses = s.responses := rfl
@[simp] theorem State.startDecompressor_caps (s : State) :
    (s.startDecompressor).caps = s.caps := rfl
@[simp] theorem State.startDecompressor_cHi (s : State) :
    (s.startDecompressor).cHi = s.cHi := rfl
@[simp] theorem State.startDecompressor_cBx (s : State) :
    (s.startDecompressor).cBx = s.cBx := rfl
@[simp] theorem State.startDecompressor_cBy (s : State) :
    (s.startDecompressor).cBy = s.cBy := rfl
@[simp] theorem State.startDecompressor_cSwap (s : State) :
    (s.startDecompressor).cSwap = s.cSwap := rfl
@[simp] theorem State.startDecompressor_cFlip (s : State) :
    (s.startDecompressor).cFlip = s.cFlip := rfl
@[simp] theorem State.startDecompressor_faulted (s : State) :
    (s.startDecompressor).faulted = s.faulted := rfl
@[simp] theorem State.startDecompressor_finfo (s : State) :
    (s.startDecompressor).finfo = s.finfo := rfl
@[simp] theorem State.startDecompressor_kCur (s : State) :
    (s.startDecompressor).kCur = s.kCur := rfl
@[simp] theorem State.startDecompressor_phase (s : State) :
    (s.startDecompressor).phase = s.phase := rfl
@[simp] theorem State.startDecompressor_mem (s : State) :
    (s.startDecompressor).mem = s.mem := rfl
@[simp] theorem State.startDecompressor_dAct (s : State) :
    (s.startDecompressor).dAct = true := rfl
@[simp] theorem State.startDecompressor_dCur (s : State) :
    (s.startDecompressor).dCur = 0#64 := rfl
@[simp] theorem State.startDecompressor_dTp (s : State) :
    (s.startDecompressor).dTp = 0#33 := rfl
@[simp] theorem State.startDecompressor_dDp (s : State) :
    (s.startDecompressor).dDp = 0#33 := rfl
@[simp] theorem State.startDecompressor_dP16 (s : State) :
    (s.startDecompressor).dP16 = 0#33 := rfl
@[simp] theorem State.startDecompressor_dP32 (s : State) :
    (s.startDecompressor).dP32 = 0#33 := rfl
@[simp] theorem State.startDecompressor_dP64 (s : State) :
    (s.startDecompressor).dP64 = 0#33 := rfl

@[simp] theorem State.endDecompressor_inputs (s : State) :
    (s.endDecompressor).inputs = s.inputs := rfl
@[simp] theorem State.endDecompressor_responses (s : State) :
    (s.endDecompressor).responses = s.responses := rfl
@[simp] theorem State.endDecompressor_caps (s : State) :
    (s.endDecompressor).caps = s.caps := rfl
@[simp] theorem State.endDecompressor_cHi (s : State) :
    (s.endDecompressor).cHi = s.cHi := rfl
@[simp] theorem State.endDecompressor_cBx (s : State) :
    (s.endDecompressor).cBx = s.cBx := rfl
@[simp] theorem State.endDecompressor_cBy (s : State) :
    (s.endDecompressor).cBy = s.cBy := rfl
@[simp] theorem State.endDecompressor_cSwap (s : State) :
    (s.endDecompressor).cSwap = s.cSwap := rfl
@[simp] theorem State.endDecompressor_cFlip (s : State) :
    (s.endDecompressor).cFlip = s.cFlip := rfl
@[simp] theorem State.endDecompressor_faulted (s : State) :
    (s.endDecompressor).faulted = s.faulted := rfl
@[simp] theorem State.endDecompressor_finfo (s : State) :
    (s.endDecompressor).finfo = s.finfo := rfl
@[simp] theorem State.endDecompressor_kCur (s : State) :
    (s.endDecompressor).kCur = s.kCur := rfl
@[simp] theorem State.endDecompressor_phase (s : State) :
    (s.endDecompressor).phase = s.phase := rfl
@[simp] theorem State.endDecompressor_mem (s : State) :
    (s.endDecompressor).mem = s.mem := rfl
@[simp] theorem State.endDecompressor_dAct (s : State) :
    (s.endDecompressor).dAct = false := rfl
@[simp] theorem State.endDecompressor_dCur (s : State) :
    (s.endDecompressor).dCur = s.dCur := rfl
@[simp] theorem State.endDecompressor_dTp (s : State) :
    (s.endDecompressor).dTp = s.dTp := rfl
@[simp] theorem State.endDecompressor_dDp (s : State) :
    (s.endDecompressor).dDp = s.dDp := rfl
@[simp] theorem State.endDecompressor_dP16 (s : State) :
    (s.endDecompressor).dP16 = s.dP16 := rfl
@[simp] theorem State.endDecompressor_dP32 (s : State) :
    (s.endDecompressor).dP32 = s.dP32 := rfl
@[simp] theorem State.endDecompressor_dP64 (s : State) :
    (s.endDecompressor).dP64 = s.dP64 := rfl

@[simp] theorem State.addDelta_inputs (s : State) (d : U64) :
    (s.addDelta d).inputs = s.inputs := rfl
@[simp] theorem State.addDelta_responses (s : State) (d : U64) :
    (s.addDelta d).responses = s.responses := rfl
@[simp] theorem State.addDelta_caps (s : State) (d : U64) :
    (s.addDelta d).caps = s.caps := rfl
@[simp] theorem State.addDelta_cHi (s : State) (d : U64) :
    (s.addDelta d).cHi = s.cHi := rfl
@[simp] theorem State.addDelta_cBx (s : State) (d : U64) :
    (s.addDelta d).cBx = s.cBx := rfl
@[simp] theorem State.addDelta_cBy (s : State) (d : U64) :
    (s.addDelta d).cBy = s.cBy := rfl
@[simp] theorem State.addDelta_cSwap (s : State) (d : U64) :
    (s.addDelta d).cSwap = s.cSwap := rfl
@[simp] theorem State.addDelta_cFlip (s : State) (d : U64) :
    (s.addDelta d).cFlip = s.cFlip := rfl
@[simp] theorem State.addDelta_faulted (s : State) (d : U64) :
    (s.addDelta d).faulted = s.faulted := rfl
@[simp] theorem State.addDelta_finfo (s : State) (d : U64) :
    (s.addDelta d).finfo = s.finfo := rfl
@[simp] theorem State.addDelta_kCur (s : State) (d : U64) :
    (s.addDelta d).kCur = s.kCur := rfl
@[simp] theorem State.addDelta_phase (s : State) (d : U64) :
    (s.addDelta d).phase = s.phase := rfl
@[simp] theorem State.addDelta_mem (s : State) (d : U64) :
    (s.addDelta d).mem = s.mem := rfl
@[simp] theorem State.addDelta_dAct (s : State) (d : U64) :
    (s.addDelta d).dAct = s.dAct := rfl
@[simp] theorem State.addDelta_dCur (s : State) (d : U64) :
    (s.addDelta d).dCur = s.dCur + d := rfl
@[simp] theorem State.addDelta_dTp (s : State) (d : U64) :
    (s.addDelta d).dTp = s.dTp := rfl
@[simp] theorem State.addDelta_dDp (s : State) (d : U64) :
    (s.addDelta d).dDp = s.dDp := rfl
@[simp] theorem State.addDelta_dP16 (s : State) (d : U64) :
    (s.addDelta d).dP16 = s.dP16 := rfl
@[simp] theorem State.addDelta_dP32 (s : State) (d : U64) :
    (s.addDelta d).dP32 = s.dP32 := rfl
@[simp] theorem State.addDelta_dP64 (s : State) (d : U64) :
    (s.addDelta d).dP64 = s.dP64 := rfl

@[simp] theorem State.afterReset_inputs (s : State) :
    (s.afterReset).inputs = s.inputs := rfl
@[simp] theorem State.afterReset_responses (s : State) :
    (s.afterReset).responses = s.responses := rfl
@[simp] theorem State.afterReset_caps (s : State) :
    (s.afterReset).caps = s.caps := rfl
@[simp] theorem State.afterReset_cHi (s : State) :
    (s.afterReset).cHi = 0#48 := rfl
@[simp] theorem State.afterReset_cBx (s : State) :
    (s.afterReset).cBx = 0#32 := rfl
@[simp] theorem State.afterReset_cBy (s : State) :
    (s.afterReset).cBy = 0#32 := rfl
@[simp] theorem State.afterReset_cSwap (s : State) :
    (s.afterReset).cSwap = false := rfl
@[simp] theorem State.afterReset_cFlip (s : State) :
    (s.afterReset).cFlip = false := rfl
@[simp] theorem State.afterReset_faulted (s : State) :
    (s.afterReset).faulted = false := rfl
@[simp] theorem State.afterReset_finfo (s : State) :
    (s.afterReset).finfo = 0#64 := rfl
@[simp] theorem State.afterReset_kCur (s : State) :
    (s.afterReset).kCur = 0#64 := rfl
@[simp] theorem State.afterReset_phase (s : State) :
    (s.afterReset).phase = .opened := rfl
@[simp] theorem State.afterReset_mem (s : State) :
    (s.afterReset).mem = Memory.empty := rfl
@[simp] theorem State.afterReset_dAct (s : State) :
    (s.afterReset).dAct = false := rfl
@[simp] theorem State.afterReset_dCur (s : State) :
    (s.afterReset).dCur = 0#64 := rfl
@[simp] theorem State.afterReset_dTp (s : State) :
    (s.afterReset).dTp = 0#33 := rfl
@[simp] theorem State.afterReset_dDp (s : State) :
    (s.afterReset).dDp = 0#33 := rfl
@[simp] theorem State.afterReset_dP16 (s : State) :
    (s.afterReset).dP16 = 0#33 := rfl
@[simp] theorem State.afterReset_dP32 (s : State) :
    (s.afterReset).dP32 = 0#33 := rfl
@[simp] theorem State.afterReset_dP64 (s : State) :
    (s.afterReset).dP64 = 0#33 := rfl

@[simp] theorem State.advance_inputs (s : State) (st : Stream) :
    (s.advance st).inputs = s.inputs := by cases st <;> rfl
@[simp] theorem State.advance_responses (s : State) (st : Stream) :
    (s.advance st).responses = s.responses := by cases st <;> rfl
@[simp] theorem State.advance_caps (s : State) (st : Stream) :
    (s.advance st).caps = s.caps := by cases st <;> rfl
@[simp] theorem State.advance_cHi (s : State) (st : Stream) :
    (s.advance st).cHi = s.cHi := by cases st <;> rfl
@[simp] theorem State.advance_cBx (s : State) (st : Stream) :
    (s.advance st).cBx = s.cBx := by cases st <;> rfl
@[simp] theorem State.advance_cBy (s : State) (st : Stream) :
    (s.advance st).cBy = s.cBy := by cases st <;> rfl
@[simp] theorem State.advance_cSwap (s : State) (st : Stream) :
    (s.advance st).cSwap = s.cSwap := by cases st <;> rfl
@[simp] theorem State.advance_cFlip (s : State) (st : Stream) :
    (s.advance st).cFlip = s.cFlip := by cases st <;> rfl
@[simp] theorem State.advance_faulted (s : State) (st : Stream) :
    (s.advance st).faulted = s.faulted := by cases st <;> rfl
@[simp] theorem State.advance_finfo (s : State) (st : Stream) :
    (s.advance st).finfo = s.finfo := by cases st <;> rfl
@[simp] theorem State.advance_kCur (s : State) (st : Stream) :
    (s.advance st).kCur = s.kCur := by cases st <;> rfl
@[simp] theorem State.advance_phase (s : State) (st : Stream) :
    (s.advance st).phase = s.phase := by cases st <;> rfl
@[simp] theorem State.advance_mem (s : State) (st : Stream) :
    (s.advance st).mem = s.mem := by cases st <;> rfl
@[simp] theorem State.advance_dAct (s : State) (st : Stream) :
    (s.advance st).dAct = s.dAct := by cases st <;> rfl
@[simp] theorem State.advance_dCur (s : State) (st : Stream) :
    (s.advance st).dCur = s.dCur := by cases st <;> rfl

/-- Moving one cursor on leaves the others. -/
@[simp] theorem State.advance_cursor (s : State) (st st' : Stream) :
    (s.advance st).cursor st' = if st' = st then s.cursor st + 1#33 else s.cursor st' := by
  cases st <;> cases st' <;> rfl

end Sys2Proof.Machine
end

