-- ==== Sys2Proof/Laws/Ops.lean ====
section
/-! SUPPORT. For each shared operation, once, everything it can do when it answers a next state. A proof
cites these and does not unfold the operation. -/

namespace Sys2Proof.Machine

theorem respond_next {st : Status} {d : U64} {s t : State} :
    respond st d s = .next t ↔ s.answer st d = t := by
  simp [respond]

theorem raiseFatal_next {d : U64} {s t : State} :
    raiseFatal d s = .next t ↔ (s.enterFault d).answer .fatal d = t := by
  simp [raiseFatal, respond]

/-- A command behind the `FAULTED` check (60_exceptions.md R279 (2)). -/
theorem unlessFaulted_next {run : Result} {s t : State} :
    unlessFaulted run s = .next t ↔
      (s.faulted = true ∧ s.answer .fatal 0#64 = t) ∨ (s.faulted = false ∧ run = .next t) := by
  cases h : s.faulted <;> simp [unlessFaulted, h, respond]

theorem ifOpen_next {run : Result} {s t : State} :
    ifOpen run s = .next t ↔
      (s.phase = .sealed ∧ s.answer .phase 0#64 = t) ∨ (s.phase = .opened ∧ run = .next t) := by
  cases h : s.phase <;> simp [ifOpen, h, respond]

theorem ifSealed_next {run : Result} {s t : State} :
    ifSealed run s = .next t ↔
      (s.phase = .opened ∧ s.answer .phase 0#64 = t) ∨ (s.phase = .sealed ∧ run = .next t) := by
  cases h : s.phase <;> simp [ifSealed, h, respond]

theorem ifActive_next {run : Result} {s t : State} :
    ifActive run s = .next t ↔
      (s.dAct = false ∧ s.answer .phase 0#64 = t) ∨ (s.dAct = true ∧ run = .next t) := by
  cases h : s.dAct <;> simp [ifActive, h, respond]

/-- K.PUSH in phase OPEN: FULL, a direct store, or an overflow store (44_compressor.md R204). -/
theorem pushDelta_next {v : U64} {s t : State} (h : pushDelta v s = .next t) :
    s.answer .full 0#64 = t ∨
    (tierOf (v - s.kCur) = .direct ∧ s.isFull .tag = false ∧
      ((s.append .tag (v - s.kCur)).setKCur v).answer .ok 0#64 = t) ∨
    (∃ w st, (tierOf (v - s.kCur)).overflow = some (w, st) ∧
      s.isFull .tag = false ∧ s.isFull .disc = false ∧ s.isFull st = false ∧
      ((((s.append .tag 0#64).append .disc w).append st (v - s.kCur)).setKCur v).answer .ok 0#64
        = t) := by
  unfold pushDelta at h
  cases ht : tierOf (v - s.kCur)
  case direct =>
    simp only [ht, Tier.overflow] at h
    split at h
    · exact .inl (respond_next.1 h)
    · rename_i hf
      exact .inr (.inl ⟨rfl, by simpa using hf, respond_next.1 h⟩)
  all_goals
    simp only [ht, Tier.overflow] at h
    split at h
    · exact .inl (respond_next.1 h)
    · rename_i hf
      simp only [Bool.or_eq_true, not_or, Bool.not_eq_true] at hf
      exact .inr (.inr ⟨_, _, rfl, hf.1.1, hf.1.2, hf.2, respond_next.1 h⟩)

/-- D.NEXT with an active decompressor: END, a direct value, an overflow value, or BADSTREAM
(45_decompressor.md R222). -/
theorem nextValue_next {s t : State} (h : nextValue s = .next t) :
    (s.readAtCursor .tag = none ∧ s.answer .endSeq 0#64 = t) ∨
    (∃ tag, s.readAtCursor .tag = some tag ∧ tag ≠ 0#64 ∧
      ((s.addDelta tag).advance .tag).answer .ok (s.dCur + tag) = t) ∨
    (∃ w st delta, s.readAtCursor .tag = some 0#64 ∧ s.readAtCursor .disc = some w ∧
      overflowOf w = some st ∧ s.readAtCursor st = some delta ∧
      ((((s.addDelta delta).advance .tag).advance .disc).advance st).answer .ok (s.dCur + delta)
        = t) ∨
    (s.readAtCursor .tag = some 0#64 ∧ s.endDecompressor.answer .badStream 0#64 = t) := by
  unfold nextValue at h
  split at h
  · exact .inl ⟨‹_›, respond_next.1 h⟩
  · rename_i tag htag
    split at h
    · subst tag
      unfold nextOverflow badStream at h
      split at h
      · exact .inr (.inr (.inr ⟨htag, respond_next.1 h⟩))
      · split at h
        · exact .inr (.inr (.inr ⟨htag, respond_next.1 h⟩))
        · split at h
          · exact .inr (.inr (.inr ⟨htag, respond_next.1 h⟩))
          · exact .inr (.inr (.inl ⟨_, _, _, htag, ‹_›, ‹_›, ‹_›, respond_next.1 h⟩))
    · exact .inr (.inl ⟨tag, htag, ‹_›, respond_next.1 h⟩)

/-- S.LD.s: RANGE or the element (46_streams_sysreg.md R241). -/
theorem loadElement_next {st : Stream} {idx : U32} {s t : State}
    (h : loadElement st idx s = .next t) :
    (s.mem.len st ≤ idx.toNat ∧ s.answer .range 0#64 = t) ∨
    (∃ v, s.mem.read st idx.toNat = some v ∧ s.answer .ok v = t) := by
  unfold loadElement at h
  split at h
  · exact .inl ⟨(Memory.read_eq_none_iff _ _ _).1 ‹_›, respond_next.1 h⟩
  · exact .inr ⟨_, ‹_›, respond_next.1 h⟩

/-- S.APP.s in phase OPEN: FULL or the append (46_streams_sysreg.md R243). -/
theorem appendElement_next {st : Stream} {v : U64} {s t : State}
    (h : appendElement st v s = .next t) :
    (s.isFull st = true ∧ s.answer .full 0#64 = t) ∨
    (s.isFull st = false ∧ (s.append st v).answer .ok 0#64 = t) := by
  unfold appendElement at h
  split at h
  · exact .inl ⟨‹_›, respond_next.1 h⟩
  · rename_i hf
    exact .inr ⟨by simpa using hf, respond_next.1 h⟩

/-- The miss procedure writes the five cache registers and nothing else, or gives the `FINFO` word
(43_cached.md R184, R186). -/
theorem missProc_cases (T : Tables) (hi : BitVec 48) (s : State) :
    (∃ bx yy sw fl, missProc T hi s = .ok (s.setCache hi bx yy sw fl)) ∨
    (∃ info, missProc T hi s = .error info) := by
  unfold missProc
  dsimp only
  split
  · exact .inl ⟨_, _, _, _, rfl⟩
  · exact .inr ⟨_, rfl⟩

/-- C.DET: a hit, a refill, or the fatal condition (43_cached.md R182). -/
theorem cDetangle_next {T : Tables} {tg : U64} {s t : State} (h : cDetangle T tg s = .next t) :
    (prefixOf tg = s.cHi ∧ s.answer .ok (packPair (applyCache T (chunkOf tg 0) s)) = t) ∨
    (∃ s', missProc T (prefixOf tg) s = .ok s' ∧
      s'.answer .ok (packPair (applyCache T (chunkOf tg 0) s')) = t) ∨
    (∃ info, missProc T (prefixOf tg) s = .error info ∧
      (s.enterFault info).answer .fatal info = t) := by
  unfold cDetangle at h
  by_cases hp : prefixOf tg = s.cHi
  · rw [if_pos hp] at h
    exact .inl ⟨hp, respond_next.1 h⟩
  · rw [if_neg hp] at h
    generalize hm : missProc T (prefixOf tg) s = m at h
    cases m with
    | ok s' => exact .inr (.inl ⟨s', rfl, respond_next.1 h⟩)
    | error info => exact .inr (.inr ⟨info, rfl, raiseFatal_next.1 h⟩)

/-- S.RD: ILLEGAL or the register's value (46_streams_sysreg.md R244). -/
theorem execSRd_next {n : U8} {s t : State} (h : execSRd n s = .next t) :
    (sysReg n s = none ∧ s.answer .illegal 0#64 = t) ∨
    (∃ v, sysReg n s = some v ∧ s.answer .ok v = t) := by
  unfold execSRd respondIllegal at h
  split at h
  · exact .inl ⟨‹_›, respond_next.1 h⟩
  · exact .inr ⟨_, ‹_›, respond_next.1 h⟩

end Sys2Proof.Machine
end

