-- ==== Sys2Proof/Laws/PerInstr.lean ====
section
/-! SUPPORT. The per-command family `EncodeOpcode`: the word of a command carries the opcode of its row
in bits 71:64 (30_encoding.md R81, R86). -/

namespace Sys2Proof.Laws

/-- The opcode field of an opcode over an argument is that opcode (30_encoding.md R81). -/
theorem cmdOp_append (op : U8) (arg : U64) : cmdOp (op ++ arg) = op := by
  apply BitVec.eq_of_getLsbD_eq
  intro i hi
  have h : (op ++ arg).getLsbD (64 + i) = op.getLsbD i := by
    rw [BitVec.getLsbD_append, if_neg (by omega), Nat.add_sub_cancel_left]
  simpa [cmdOp, hi] using h

/-- The argument field of an opcode over an argument is that argument (30_encoding.md R81). -/
theorem cmdArg_append (op : U8) (arg : U64) : cmdArg (op ++ arg) = arg := by
  apply BitVec.eq_of_getLsbD_eq
  intro i hi
  have h : (op ++ arg).getLsbD i = arg.getLsbD i := by
    rw [BitVec.getLsbD_append, if_pos hi]
  simpa [cmdArg, hi] using h

/-- `EncodeOpcode` of a command. -/
def EncodeOpcode.Statement (i : Instr) : Prop := cmdOp (encode i) = i.opcode

theorem EncodeOpcode.zEnt (x y : U32) : EncodeOpcode.Statement (.zEnt x y) :=
  cmdOp_append _ _
theorem EncodeOpcode.zDet (t : U64) : EncodeOpcode.Statement (.zDet t) :=
  cmdOp_append _ _
theorem EncodeOpcode.hEnt (x y : U32) : EncodeOpcode.Statement (.hEnt x y) :=
  cmdOp_append _ _
theorem EncodeOpcode.hDet (t : U64) : EncodeOpcode.Statement (.hDet t) :=
  cmdOp_append _ _
theorem EncodeOpcode.bEnt (x y : U32) : EncodeOpcode.Statement (.bEnt x y) :=
  cmdOp_append _ _
theorem EncodeOpcode.bDet (t : U64) : EncodeOpcode.Statement (.bDet t) :=
  cmdOp_append _ _
theorem EncodeOpcode.cNew : EncodeOpcode.Statement (.cNew) :=
  cmdOp_append _ _
theorem EncodeOpcode.cDet (t : U64) : EncodeOpcode.Statement (.cDet t) :=
  cmdOp_append _ _
theorem EncodeOpcode.kNew : EncodeOpcode.Statement (.kNew) :=
  cmdOp_append _ _
theorem EncodeOpcode.kCap (hint : U64) : EncodeOpcode.Statement (.kCap hint) :=
  cmdOp_append _ _
theorem EncodeOpcode.kPush (v : U64) : EncodeOpcode.Statement (.kPush v) :=
  cmdOp_append _ _
theorem EncodeOpcode.kDone : EncodeOpcode.Statement (.kDone) :=
  cmdOp_append _ _
theorem EncodeOpcode.dStart : EncodeOpcode.Statement (.dStart) :=
  cmdOp_append _ _
theorem EncodeOpcode.dNext : EncodeOpcode.Statement (.dNext) :=
  cmdOp_append _ _
theorem EncodeOpcode.dHint : EncodeOpcode.Statement (.dHint) :=
  cmdOp_append _ _
theorem EncodeOpcode.sLdTag (idx : U32) : EncodeOpcode.Statement (.sLdTag idx) :=
  cmdOp_append _ _
theorem EncodeOpcode.sLdDisc (idx : U32) : EncodeOpcode.Statement (.sLdDisc idx) :=
  cmdOp_append _ _
theorem EncodeOpcode.sLdO16 (idx : U32) : EncodeOpcode.Statement (.sLdO16 idx) :=
  cmdOp_append _ _
theorem EncodeOpcode.sLdO32 (idx : U32) : EncodeOpcode.Statement (.sLdO32 idx) :=
  cmdOp_append _ _
theorem EncodeOpcode.sLdO64 (idx : U32) : EncodeOpcode.Statement (.sLdO64 idx) :=
  cmdOp_append _ _
theorem EncodeOpcode.sLenTag : EncodeOpcode.Statement (.sLenTag) :=
  cmdOp_append _ _
theorem EncodeOpcode.sLenDisc : EncodeOpcode.Statement (.sLenDisc) :=
  cmdOp_append _ _
theorem EncodeOpcode.sLenO16 : EncodeOpcode.Statement (.sLenO16) :=
  cmdOp_append _ _
theorem EncodeOpcode.sLenO32 : EncodeOpcode.Statement (.sLenO32) :=
  cmdOp_append _ _
theorem EncodeOpcode.sLenO64 : EncodeOpcode.Statement (.sLenO64) :=
  cmdOp_append _ _
theorem EncodeOpcode.sAppTag (v : U8) : EncodeOpcode.Statement (.sAppTag v) :=
  cmdOp_append _ _
theorem EncodeOpcode.sAppDisc (v : BitVec 2) : EncodeOpcode.Statement (.sAppDisc v) :=
  cmdOp_append _ _
theorem EncodeOpcode.sAppO16 (v : U16) : EncodeOpcode.Statement (.sAppO16 v) :=
  cmdOp_append _ _
theorem EncodeOpcode.sAppO32 (v : U32) : EncodeOpcode.Statement (.sAppO32 v) :=
  cmdOp_append _ _
theorem EncodeOpcode.sAppO64 (v : U64) : EncodeOpcode.Statement (.sAppO64 v) :=
  cmdOp_append _ _
theorem EncodeOpcode.sRd (n : U8) : EncodeOpcode.Statement (.sRd n) :=
  cmdOp_append _ _

end Sys2Proof.Laws
end

