-- ==== Sys2Proof/Tests/Slice0.lean ====
section
/-! SUPPORT. The model's own tests: the well-formedness checks on ill-formed terms, every constructor's
decoding, single steps with the results of the spec's worked examples, and for every statement with
hypotheses a state and operands that meet them. -/

namespace Sys2Proof.Tests

open Sys2Proof.Machine

/-! ### Small states -/

/-- Program A sealed (95_test_vectors.md section 1.1): seven values in two streams. -/
def programA : State :=
  { State.reset with
    kCur := 1543245423#64, phase := .sealed,
    mem := { tag := [0#8, 1#8, 1#8, 2#8, 96#8, 0#8, 0#8], disc := [0#2, 1#2, 1#2], o16 := [0#16],
             o32 := [123312#32, 1543122011#32], o64 := [] } }

/-- Program A after five D.NEXT: the next tag is a 32-bit overflow. -/
def programAMid : State :=
  { programA with dAct := true, dCur := 100#64, dTp := 5#33, dDp := 1#33, dP16 := 1#33 }

/-- Program A at the end of its sequence. -/
def programAEnd : State :=
  { programA with dAct := true, dCur := 1543245423#64, dTp := 7#33, dDp := 3#33, dP16 := 1#33,
                  dP32 := 2#33 }

/-- The cache after `C.DET 0x42484ACA4842406A` (95_test_vectors.md section 6.1). -/
def cachedB : State :=
  { State.reset with cHi := 0x42484ACA4842#48, cBx := 0x12345600#32, cBy := 0x9ABCDE00#32,
                     cSwap := true, cFlip := true }

/-- A block with small memories, partly filled (95_test_vectors.md section 7.4). -/
def smallFull : State :=
  { State.resetWith ⟨2#33, 1#33, 1#33, 1#33, 1#33⟩ with
    kCur := 1#64, mem := { tag := [1#8, 0#8], disc := [0#2], o16 := [0#16], o32 := [], o64 := [] } }

/-- The FAULTED state of 95_test_vectors.md section 9.3. -/
def faultedState : State := { State.reset with faulted := true, finfo := 0x1000E#64 }

/-- The tables of 95_test_vectors.md section 6.4, with one corrupted entry. -/
def badTables : Tables :=
  { glcoreTables with hdet := fun p => if p = 0x00FF#16 then (0x0E#8, 0x00#8) else hdetT p }

/-- One step on the word `w`. -/
def afterWord (s : State) (w : Nat) : Option State :=
  match step (s.withFetchWord 72 w) with
  | .next t => some t
  | .fault _ => none
  | .refused _ => none

/-- The word `w` is answered with this status and data. -/
def answers (s : State) (w : Nat) (st : Status) (d : U64) : Bool :=
  match afterWord s w with
  | some t => t.responses == s.responses ++ [responseWord st d]
  | none => false

/-- What a check finds in the state after the word `w`. -/
def leaves (s : State) (w : Nat) (p : State → Bool) : Bool :=
  match afterWord s w with
  | some t => p t
  | none => false

/-! ### Well-formedness: each check on an ill-formed term -/

/-- An opcode that is not in the map (30_encoding.md R87). -/
theorem test_wordOk_refuses_unknown_opcode : wordOk 0x020000000000000000#72 = false := by decide
/-- A must-be-zero bit set, one word for each format that has such bits (30_encoding.md R83). -/
theorem test_wordOk_refuses_set_zero_bits :
    [0x300000000000000001#72, 0x600000000100000000#72, 0x710000000000000004#72,
      0x800000000000000100#72].all (fun w => !wordOk w) = true := by decide
theorem test_wordOk_accepts : wordOk 0x710000000000000003#72 = true := by decide
/-- `CAP[s] = 0` and `CAP[s] = 2^32 + 1` (00_scope.md R6). -/
theorem test_capOk_refuses_zero : capOk 0#33 = false := by decide
theorem test_capOk_refuses_above : capOk 0x100000001#33 = false := by decide
theorem test_capOk_bounds : (capOk 1#33 && capOk 0x100000000#33) = true := by decide
/-- Each capacity of the five is checked. -/
theorem test_capsOk_refuses_each :
    [Caps.ok ⟨0, 1, 1, 1, 1⟩, Caps.ok ⟨1, 0, 1, 1, 1⟩, Caps.ok ⟨1, 1, 0, 1, 1⟩,
      Caps.ok ⟨1, 1, 1, 0, 1⟩, Caps.ok ⟨1, 1, 1, 1, 0⟩] = [false, false, false, false, false] := by
  decide
/-- A stream beyond its capacity is out of form. -/
theorem test_memory_wf_refuses :
    Memory.wf ⟨2, 1, 1, 1, 1⟩ { Memory.empty with disc := [0, 0] } = false := by decide

/-! ### Decoding: a word written out from the encoding of each row -/

theorem test_decode_zEnt : decode 0x00123456789ABCDEF0#72 = .ok (.zEnt 0x12345678#32 0x9ABCDEF0#32) := by decide
theorem test_decode_zDet : decode 0x0142484ACA4842406A#72 = .ok (.zDet 0x42484ACA4842406A#64) := by decide
theorem test_decode_hEnt : decode 0x10123456789ABCDEF0#72 = .ok (.hEnt 0x12345678#32 0x9ABCDEF0#32) := by decide
theorem test_decode_hDet : decode 0x1142484ACA4842406A#72 = .ok (.hDet 0x42484ACA4842406A#64) := by decide
theorem test_decode_bEnt : decode 0x20123456789ABCDEF0#72 = .ok (.bEnt 0x12345678#32 0x9ABCDEF0#32) := by decide
theorem test_decode_bDet : decode 0x2142484ACA4842406A#72 = .ok (.bDet 0x42484ACA4842406A#64) := by decide
theorem test_decode_cNew : decode 0x300000000000000000#72 = .ok .cNew := by decide
theorem test_decode_cDet : decode 0x3142484ACA4842406A#72 = .ok (.cDet 0x42484ACA4842406A#64) := by decide
theorem test_decode_kNew : decode 0x400000000000000000#72 = .ok .kNew := by decide
theorem test_decode_kCap : decode 0x4142484ACA4842406A#72 = .ok (.kCap 0x42484ACA4842406A#64) := by decide
theorem test_decode_kPush : decode 0x4242484ACA4842406A#72 = .ok (.kPush 0x42484ACA4842406A#64) := by decide
theorem test_decode_kDone : decode 0x430000000000000000#72 = .ok .kDone := by decide
theorem test_decode_dStart : decode 0x500000000000000000#72 = .ok .dStart := by decide
theorem test_decode_dNext : decode 0x510000000000000000#72 = .ok .dNext := by decide
theorem test_decode_dHint : decode 0x520000000000000000#72 = .ok .dHint := by decide
theorem test_decode_sLdTag : decode 0x600000000080000004#72 = .ok (.sLdTag 0x80000004#32) := by decide
theorem test_decode_sLdDisc : decode 0x610000000080000004#72 = .ok (.sLdDisc 0x80000004#32) := by decide
theorem test_decode_sLdO16 : decode 0x620000000080000004#72 = .ok (.sLdO16 0x80000004#32) := by decide
theorem test_decode_sLdO32 : decode 0x630000000080000004#72 = .ok (.sLdO32 0x80000004#32) := by decide
theorem test_decode_sLdO64 : decode 0x640000000080000004#72 = .ok (.sLdO64 0x80000004#32) := by decide
theorem test_decode_sLenTag : decode 0x680000000000000000#72 = .ok .sLenTag := by decide
theorem test_decode_sLenDisc : decode 0x690000000000000000#72 = .ok .sLenDisc := by decide
theorem test_decode_sLenO16 : decode 0x6A0000000000000000#72 = .ok .sLenO16 := by decide
theorem test_decode_sLenO32 : decode 0x6B0000000000000000#72 = .ok .sLenO32 := by decide
theorem test_decode_sLenO64 : decode 0x6C0000000000000000#72 = .ok .sLenO64 := by decide
theorem test_decode_sAppTag : decode 0x7000000000000000A5#72 = .ok (.sAppTag 0xA5#8) := by decide
theorem test_decode_sAppDisc : decode 0x710000000000000002#72 = .ok (.sAppDisc 2#2) := by decide
theorem test_decode_sAppO16 : decode 0x720000000000001234#72 = .ok (.sAppO16 0x1234#16) := by decide
theorem test_decode_sAppO32 : decode 0x7300000000DEADBEEF#72 = .ok (.sAppO32 0xDEADBEEF#32) := by decide
theorem test_decode_sAppO64 : decode 0x74F000000100000002#72 = .ok (.sAppO64 0xF000000100000002#64) := by decide
theorem test_decode_sRd : decode 0x80000000000000000C#72 = .ok (.sRd 0x0C#8) := by decide

/-- The illegal words of 95_test_vectors.md section 9.1: no command, answered (ILLEGAL, 0), nothing else
changed, here while `FAULTED = 1` too. -/
theorem test_illegal_words :
    [0x020000000000000000, 0xFF0000000000000000, 0x650000000000000000, 0x300000000000000001, 0x438000000000000000, 0x600000000100000000, 0x700000000000000100, 0x710000000000000004, 0x720000000000010000, 0x730000000100000000, 0x800000000000000100].all (fun w =>
      leaves programAEnd w (fun t =>
        t == { programAEnd with responses := [responseWord .illegal 0] }) &&
      answers faultedState w .illegal 0 && !wordOk (BitVec.ofNat 72 w)) = true := by
  decide

/-- The table's numbers are the words themselves, bit 0 the least significant bit. -/
theorem test_decodeTableWord :
    decodeTableWord 72 0x710000000000000003 = some (.sAppDisc 3) ∧
    decodeTableWord 72 0x710000000000000004 = none := by decide

/-! ### Single steps -/

/-- Source: 41_zorder.md R133 worked example. -/
theorem test_exec_zEnt :
    (answers State.reset 0x00123456789ABCDEF0 .ok 0x838C8FB0B3BCBF40#64) = true := by decide
/-- Source: 41_zorder.md R134 worked example. -/
theorem test_exec_zDet :
    (answers State.reset 0x010123456789ABCDEF .ok 0x11BB11BB0505AFAF#64) = true := by decide
/-- Source: 95_test_vectors.md section 5.2. -/
theorem test_exec_hEnt :
    (answers State.reset 0x10DEADBEEFCAFEBABE .ok 0xA19899A720389B03#64) = true := by decide
/-- Source: 95_test_vectors.md section 5.4. -/
theorem test_exec_hDet :
    (answers State.reset 0x110123456789ABCDEF .ok 0x14C1BE2F057AAF94#64) = true := by decide +kernel
/-- Source: 40_bitref.md R115 worked example. -/
theorem test_exec_bEnt :
    (answers State.reset 0x200000000500000006 .ok 0x2D#64) = true := by decide
/-- Source: 95_test_vectors.md section 2.5. -/
theorem test_exec_bDet :
    (answers State.reset 0x21FEDCBA9876543210 .ok 0xEB3E41D0057AAF94#64) = true := by decide
/-- Source: 43_cached.md R181 worked example. -/
theorem test_exec_cNew :
    (leaves cachedB 0x300000000000000000 fun t => t.cHi == 0 && t.cBx == 0 && !t.cSwap && !t.cFlip) = true := by decide
/-- Source: 95_test_vectors.md section 6.1. -/
theorem test_exec_cDet_miss :
    (leaves State.reset 0x3142484ACA4842406A fun t => t ==
      { cachedB with responses := [responseWord .ok 0x123456789ABCDEF0#64] }) = true := by decide +kernel
/-- Source: 95_test_vectors.md section 6.1. -/
theorem test_exec_cDet_hit :
    (answers cachedB 0x3142484ACA4842FFFF .ok 0x123456FF9ABCDE00#64) = true := by decide
/-- Source: 95_test_vectors.md program A. -/
theorem test_exec_kNew :
    (leaves programAEnd 0x400000000000000000 fun t => t.mem == Memory.empty && t.kCur == 0 && !t.dAct && t.dTp == 7 && t.phase == .opened) = true := by decide
/-- Source: 44_compressor.md R203 worked example. -/
theorem test_exec_kCap :
    (leaves programA 0x410000000000000007 fun t => t.mem == Memory.empty && t.phase == .opened) = true := by decide
/-- Source: 44_compressor.md R204 worked example. -/
theorem test_exec_kPush :
    (leaves { State.reset with kCur := 100#64 } 0x42000000000001E214 fun t => t.mem == { tag := [0], disc := [1], o16 := [], o32 := [0x1E1B0], o64 := [] } && t.kCur == 0x1E214) = true := by decide
/-- Source: 95_test_vectors.md section 7.4. -/
theorem test_exec_kPush_full :
    (answers smallFull 0x42000000000000012C .full 0) = true := by decide
/-- Source: 44_compressor.md R205 worked example. -/
theorem test_exec_kDone :
    (answers programA 0x430000000000000000 .phase 0 && leaves State.reset 0x430000000000000000 fun t => t.phase == .sealed) = true := by decide
/-- Source: 45_decompressor.md R221. -/
theorem test_exec_dStart :
    (leaves programAEnd 0x500000000000000000 fun t => t.dAct && t.dTp == 0 && t.dP32 == 0 && t.dCur == 0) = true := by decide
/-- Source: 95_test_vectors.md program A. -/
theorem test_exec_dNext_overflow :
    (answers programAMid 0x510000000000000000 .ok 0x1E214#64 && leaves programAMid 0x510000000000000000 fun t => t.dTp == 6 && t.dDp == 2 && t.dP32 == 1 && t.dP16 == 1) = true := by decide
/-- Source: 95_test_vectors.md program A. -/
theorem test_exec_dNext_end :
    (answers programAEnd 0x510000000000000000 .endSeq 0) = true := by decide
/-- Source: 95_test_vectors.md program A. -/
theorem test_exec_dHint :
    (answers { programA with dAct := true, dTp := 3#33 } 0x520000000000000000 .ok 4) = true := by decide
/-- Source: 95_test_vectors.md section 8.6. -/
theorem test_exec_sLdTag :
    (answers programA 0x600000000000000004 .ok 0x60) = true := by decide
/-- Source: 95_test_vectors.md section 8.6. -/
theorem test_exec_sLdDisc :
    (answers programA 0x610000000000000002 .ok 1) = true := by decide
/-- Source: 95_test_vectors.md section 8.6. -/
theorem test_exec_sLdO16 :
    (answers programA 0x620000000000000000 .ok 0) = true := by decide
/-- Source: 95_test_vectors.md section 8.6. -/
theorem test_exec_sLdO32 :
    (answers programA 0x630000000000000001 .ok 0x5BFA2C5B) = true := by decide
/-- Source: 95_test_vectors.md section 8.6. -/
theorem test_exec_sLdO64 :
    (answers programA 0x640000000000000000 .range 0) = true := by decide
/-- Source: 95_test_vectors.md section 8.6. -/
theorem test_exec_sLenTag :
    (answers programA 0x680000000000000000 .ok 7) = true := by decide
/-- Source: 95_test_vectors.md section 8.6. -/
theorem test_exec_sLenDisc :
    (answers programA 0x690000000000000000 .ok 3) = true := by decide
/-- Source: 95_test_vectors.md section 8.6. -/
theorem test_exec_sLenO16 :
    (answers programA 0x6A0000000000000000 .ok 1) = true := by decide
/-- Source: 95_test_vectors.md section 8.6. -/
theorem test_exec_sLenO32 :
    (answers programA 0x6B0000000000000000 .ok 2) = true := by decide
/-- Source: 95_test_vectors.md section 8.6. -/
theorem test_exec_sLenO64 :
    (answers programA 0x6C0000000000000000 .ok 0) = true := by decide
/-- Source: 95_test_vectors.md section 8.1 and program D. -/
theorem test_exec_sAppTag :
    (leaves State.reset 0x700000000000000060 fun t => t.mem == { Memory.empty with tag := [0x60] }) = true := by decide
/-- Source: 46_streams_sysreg.md R243. -/
theorem test_exec_sAppDisc :
    (leaves State.reset 0x710000000000000003 fun t => t.mem == { Memory.empty with disc := [3] }) = true := by decide
/-- Source: 95_test_vectors.md section 8.1 and program D. -/
theorem test_exec_sAppO16 :
    (leaves State.reset 0x720000000000001234 fun t => t.mem == { Memory.empty with o16 := [0x1234] }) = true := by decide
/-- Source: 95_test_vectors.md section 8.1 and program D. -/
theorem test_exec_sAppO32 :
    (leaves State.reset 0x73000000005BFA2C5B fun t => t.mem == { Memory.empty with o32 := [0x5bfa2c5b] }) = true := by decide
/-- Source: 95_test_vectors.md section 8.1 and program D. -/
theorem test_exec_sAppO64 :
    (leaves State.reset 0x740000000100000000 fun t => t.mem == { Memory.empty with o64 := [0x100000000] }) = true := by decide
/-- Source: 95_test_vectors.md section 9.3. -/
theorem test_exec_sRd :
    (answers faultedState 0x80000000000000000C .ok 0x1000E && answers faultedState 0x800000000000000001 .ok 4 && answers faultedState 0x80000000000000000D .illegal 0) = true := by decide

/-- Source: 95_test_vectors.md section 6.4, the fatal condition over a corrupted table. -/
theorem test_fatal_over_bad_tables :
    (match cDetangle badTables 0x10000#64 State.reset with
      | .next t => t == { faultedState with responses := [responseWord .fatal 0x1000E#64] }
      | .fault _ => false
      | .refused _ => false) = true := by decide

/-- Source: 60_exceptions.md R277, a command after the fatal condition. -/
theorem test_faulted_refuses : answers faultedState 0x100000000100000000 .fatal 0 = true := by decide

/-- Source: 70_reset_and_hazards.md R301, reset out of the FAULTED state. -/
theorem test_reset_event :
    (match step { faultedState with inputs := [.reset] } with
      | .next t => t == State.reset
      | .fault _ => false
      | .refused _ => false) = true := by decide

/-! ### The hypotheses of the statements are met -/

/-- A command word at the head of the channel that decodes. -/
theorem witness_StepRunsDecodedCommand :
    (State.reset.withFetchWord 72 0x430000000000000000).inputs = [.command 0x430000000000000000#72] ∧
    decode 0x430000000000000000#72 = .ok .kDone := by decide

/-- A word that no row accepts, at the head of the channel. -/
theorem witness_IllegalWordsAnswered :
    (faultedState.withFetchWord 72 0x300000000000000001).inputs = [.command 0x300000000000000001#72] ∧
    ∀ r ∈ opcodeMap, 0x300000000000000001#72 &&& r.mask ≠ r.pattern := by decide

/-- A reset event at the head; also for the reset clause of OnlyCDetSetsFaulted. -/
theorem witness_ResetEventResets :
    ({ faultedState with inputs := [.reset, .reset] } : State).inputs = .reset :: [.reset] := by decide

/-- No event to come. -/
theorem witness_IdleStepChangesNothing :
    programA.inputs = [] := by decide

/-- A command word at the head of the channel. -/
theorem witness_EveryCommandIsTotal :
    (programA.withFetchWord 72 0).inputs = .command 0#72 :: [] := by decide

/-- A step that answers a refusal, PHASE, and a command without a result that answers OK. -/
theorem witness_ResponseDataRule :
    (programA.withFetchWord 72 0x430000000000000000).inputs = [.command 0x430000000000000000#72] ∧
    answers programA 0x430000000000000000 .phase 0 = true ∧
    rspStatus (responseWord .phase 0) ≠ 0#4 ∧
    hasResult .kDone = false ∧ answers State.reset 0x430000000000000000 .ok 0 = true := by decide

/-- Each refusing status is answered by some step: END, ILLEGAL, PHASE, FULL, RANGE and BADSTREAM. -/
theorem witness_RefusedCommandChangesNothing :
    (answers programAEnd 0x510000000000000000 .endSeq 0 &&
     answers programA 0x020000000000000000 .illegal 0 &&
     answers programA 0x420000000000000005 .phase 0 &&
     answers smallFull 0x700000000000000009 .full 0 &&
     answers programA 0x600000000000000007 .range 0 &&
     answers { programAMid with dDp := 3#33 } 0x510000000000000000 .badStream 0) = true := by decide

/-- The FAULTED state with a legal word, an implemented register, and an illegal word; also for the FATAL clause of OnlyCDetSetsFaulted. -/
theorem witness_FaultedBlockRefuses :
    faultedState.faulted = true ∧
    (faultedState.withFetchWord 72 0x510000000000000000).inputs =
      [.command 0x510000000000000000#72] ∧
    (decode 0x510000000000000000#72 = .ok .dNext ∧ ∀ n, Instr.dNext ≠ .sRd n) ∧
    (decode 0x80000000000000000C#72 = .ok (.sRd 0x0C#8) ∧
      sysReg 0x0C#8 faultedState = some 0x1000E#64) ∧
    decode 0x020000000000000000#72 = .error (.noSuchOpcode 0x02#8) := ⟨rfl, rfl, ⟨by decide, nofun⟩, ⟨by decide, rfl⟩, by decide⟩

/-- A next state from the FAULTED state, one of a command other than C.DET, and both outcomes of C.DET, the second over corrupted tables. -/
theorem witness_OnlyCDetSetsFaulted :
    (answers faultedState 0x310000000000000000 .fatal 0 &&
     answers State.reset 0x420000000000000005 .ok 0 &&
     answers State.reset 0x310000000000000005 .ok 3#64) = true ∧
    (∀ tg, Instr.kPush 5#64 ≠ .cDet tg) ∧ State.reset.faulted = false ∧
    cDetangle badTables 0x10000#64 State.reset =
      .next { faultedState with responses := [responseWord .fatal 0x1000E#64] } := ⟨by decide, nofun, rfl, by rfl⟩

/-- A command answered PHASE in the wrong phase and one answered OK in the right one. -/
theorem witness_PhaseStatusExactly :
    exec .kDone programA = .next (programA.answer .phase 0) ∧
    (programA.answer .phase 0).responses = programA.responses ++ [responseWord .phase 0] ∧
    exec .kDone State.reset = .next (State.reset.sealPhase.answer .ok 0) := ⟨rfl, rfl, rfl⟩

/-- A state far from reset with the invariant, and a step of it. -/
theorem witness_StepKeepsInvariant :
    programAMid.Inv ∧ cachedB.Inv ∧ leaves programAMid 0x510000000000000000 (fun _ => true) = true := by decide +kernel

/-- A reading command of each unit. -/
theorem witness_ReadsHaveNoSideEffect :
    isRead (.zEnt 1 2) = true ∧ isRead .dHint = true ∧ isRead (.sLdTag 0) = true ∧ isRead (.sRd 0) = true := by decide

/-- A command of each half with a next state. -/
theorem witness_CurveAndCompressorIndependent :
    isCompressor (.kPush 5) = true ∧ isCurve (.cDet 5) = true ∧
    (answers State.reset 0x420000000000000005 .ok 0 &&
     answers State.reset 0x310000000000000005 .ok 3#64) = true := by decide

/-- `FAULTED = 0`, the hypothesis of the curve statements (ZOrderClosedForm, ZOrderBijection, BitReferenceInverse, HEntEqualsReference, HDetEqualsReference, HilbertBijection), of SLenReadsLength and of KNewAndKCapEmpty. -/
theorem witness_NotFaulted :
    cachedB.faulted = false ∧ programA.faulted = false := by decide

/-- The bit positions at both ends. -/
theorem witness_ZOrderTables :
    0 < 8 ∧ 7 < 8 := by decide

/-- Two pairs and two indexes that agree in their lowest, and in their highest, byte or chunk only. -/
theorem witness_ZOrderChunkLocality :
    byteOf 0x12345678#32 0 = byteOf 0xFF000078#32 0 ∧ byteOf 0x12345678#32 3 = byteOf 0x12000000#32 3 ∧
    chunkOf 0x1234#64 0 = chunkOf 0xFF00000000001234#64 0 ∧
    chunkOf 0x1234000000000000#64 3 = chunkOf 0x1234FFFFFFFFFFFF#64 3 := by decide

/-- Both ends of the range: empty fields at `k = 0`, the largest fields at `k = 31`. -/
theorem witness_SubQuadrantTransform :
    (0 ≤ 31 ∧ (0#32).toNat < 2 ^ 0) ∧ (31 ≤ 31 ∧ (0x7FFFFFFF#32).toNat < 2 ^ 31) := by decide

/-- Coordinates that agree above bit 8 only, and at `k = 32` any. -/
theorem witness_BitReferencePrefix :
    (8 ≤ 32 ∧ 0x123#32 >>> 8 = 0x1FF#32 >>> 8) ∧ (32 ≤ 32 ∧ 0#32 >>> 32 = 0xFFFFFFFF#32 >>> 32) := by decide

/-- The last index that has a next one. -/
theorem witness_HilbertContinuity :
    0xFFFFFFFFFFFFFFFE#64 ≠ 0xFFFFFFFFFFFFFFFF#64 := by decide

/-- Both values of `FAULTED`; also for KNewAndKCapEmpty. -/
theorem witness_CNewRestoresResetCache :
    cachedB.faulted = false ∧ faultedState.faulted = true := by decide

/-- A cache that belongs to its prefix, away from reset. -/
theorem witness_CDetEqualsHDet :
    cachedB.faulted = false ∧ cachedB.cacheOk := by decide +kernel

/-- A hit, with clear bases, and the raw byte pair of its low chunk. -/
theorem witness_CDetHitAppliesCache :
    cachedB.faulted = false ∧ (0x42484ACA4842FFFF#64).extractLsb' 16 48 = cachedB.cHi ∧
    cachedB.basesClear ∧ hentT 0xFF#8 0x00#8 = (0x42484ACA4842FFFF#64).extractLsb' 0 16 := by decide

/-- A pair that is none of the four patterns. -/
theorem witness_ClassificationTable :
    (0x00#8, 0x0E#8) ∉ [(0x0F#8, 0x00#8), (0x00#8, 0x0F#8), (0xF0#8, 0xFF#8), (0xFF#8, 0xF0#8)] := by decide

/-- The corrupted table of 95_test_vectors.md section 6.4. -/
theorem witness_FatalConditionRaised :
    (0x10000#64).extractLsb' 16 48 ≠ State.reset.cHi ∧
    byteOf (hDetangle badTables ((0x10000#64).extractLsb' 16 48 ++ 0x00FF#16)).1 0 = 0x00#8 ∧
    byteOf (hDetangle badTables ((0x10000#64).extractLsb' 16 48 ++ 0x00FF#16)).2 0 = 0x0E#8 ∧
    (0x00#8, 0x0E#8) ∉ [(0x0F#8, 0x00#8), (0x00#8, 0x0F#8), (0xF0#8, 0xFF#8), (0xFF#8, 0xF0#8)] := by decide

/-- A C.DET that misses, from a state with `FAULTED = 0`. -/
theorem witness_FatalConditionDead :
    State.reset.faulted = false ∧ answers State.reset 0x310000000000010000 .ok 0x10000000000#64 = true := by decide +kernel

/-- The state side: not FAULTED, OPEN, room in every stream. -/
theorem witness_KPushStoresByTier :
    let s : State := { State.resetWith ⟨1, 1, 1, 1, 1⟩ with kCur := 10#64 }
    (s.faulted = false ∧ s.phase = .opened ∧ s.mem.tag.length < s.caps.tag.toNat ∧
      s.mem.disc.length < s.caps.disc.toNat ∧ s.mem.o16.length < s.caps.o16.toNat ∧
      s.mem.o32.length < s.caps.o32.toNat ∧ s.mem.o64.length < s.caps.o64.toNat) ∧
    ((1#64).toNat = ((11#64).toNat + 2 ^ 64 - s.kCur.toNat) % 2 ^ 64 ∧
      1 ≤ (1#64).toNat ∧ (1#64).toNat ≤ 255) ∧
    ((255#64).toNat = ((265#64).toNat + 2 ^ 64 - s.kCur.toNat) % 2 ^ 64 ∧ (255#64).toNat ≤ 255) ∧
    (0#64).toNat = ((10#64).toNat + 2 ^ 64 - s.kCur.toNat) % 2 ^ 64 := by decide

/-- The delta side at the boundaries of each tier (44_compressor.md R201), a wrapped delta among them. -/
theorem witness_KPushStoresByTier_deltas :
    let s : State := { State.resetWith ⟨1, 1, 1, 1, 1⟩ with kCur := 10#64 }
    ([(266, 256), (65545, 65535), (65546, 65536), (0x100000009, 0xFFFFFFFF),
        (0x10000000A, 0x100000000), (3, 0xFFFFFFFFFFFFFFF9)].all fun (p : U64 × U64) =>
      p.2.toNat == (p.1.toNat + 2 ^ 64 - s.kCur.toNat) % 2 ^ 64) = true ∧
    (256 ≤ (256#64).toNat ∧ (65535#64).toNat ≤ 65535) ∧
    (65536 ≤ (65536#64).toNat ∧ (0xFFFFFFFF#64).toNat ≤ 2 ^ 32 - 1) ∧
    2 ^ 32 ≤ (0x100000000#64).toNat := by decide

/-- A sealed form; each stream at capacity with a delta of its tier. -/
theorem witness_KPushRefusals :
    let s : State := { smallFull with mem := { smallFull.mem with o32 := [9], o64 := [9] } }
    (programA.faulted = false ∧ programA.phase = .sealed) ∧
    (s.faulted = false ∧ s.phase = .opened ∧ s.mem.tag.length = s.caps.tag.toNat) ∧
    (tierOf (300#64 - s.kCur) = .w16 ∧ s.mem.disc.length = s.caps.disc.toNat ∧
      s.mem.o16.length = s.caps.o16.toNat) ∧
    (tierOf (65537#64 - s.kCur) = .w32 ∧ s.mem.o32.length = s.caps.o32.toNat) ∧
    (tierOf (0#64 - s.kCur) = .w64 ∧ s.mem.o64.length = s.caps.o64.toNat) := by decide

/-- Both phases and the FAULTED state. -/
theorem witness_KDoneSeals :
    (State.reset.faulted = false ∧ State.reset.phase = .opened) ∧
    (programA.faulted = false ∧ programA.phase = .sealed) ∧ faultedState.faulted = true := by decide

/-- Consistent compressor-made streams and a command that writes them. -/
theorem witness_StreamInvariantKept :
    programA.mem.consistent ∧ programA.mem.compressorMade ∧ isAppend (.kPush 7) = false ∧
    answers { programA with phase := .opened } 0x420000000000000007 .ok 0 = true := by decide

/-- Both phases. -/
theorem witness_DStartFresh :
    programA.faulted = false ∧ programA.phase = .sealed ∧ State.reset.phase = .opened := by decide

/-- An active decompressor at a non-zero tag. -/
theorem witness_DNextAddsDirectTag :
    let s : State := { programAMid with dTp := 4#33 }
    s.faulted = false ∧ s.dAct = true ∧ s.mem.tag[s.dTp.toNat]? = some 96#8 ∧ 96#8 ≠ 0#8 := by decide

/-- A zero tag whose discriminator names each of the three streams, with an element there. -/
theorem witness_DNextAddsOverflowDelta :
    let s : State := programAMid
    let s16 : State := { programAMid with dTp := 0#33, dDp := 0#33, dP16 := 0#33 }
    let s64 : State := { programAMid with mem := { programA.mem with disc := [0, 2], o64 := [7] } }
    (s16.faulted = false ∧ s16.dAct = true ∧ s16.mem.tag[s16.dTp.toNat]? = some 0#8 ∧
      s16.mem.disc[s16.dDp.toNat]? = some 0#2 ∧ s16.mem.o16[s16.dP16.toNat]? = some 0#16) ∧
    (s.faulted = false ∧ s.dAct = true ∧ s.mem.tag[s.dTp.toNat]? = some 0#8 ∧
      s.mem.disc[s.dDp.toNat]? = some 1#2 ∧ s.mem.o32[s.dP32.toNat]? = some 123312#32) ∧
    (s64.faulted = false ∧ s64.dAct = true ∧ s64.mem.tag[s64.dTp.toNat]? = some 0#8 ∧
      s64.mem.disc[s64.dDp.toNat]? = some 2#2 ∧ s64.mem.o64[s64.dP64.toNat]? = some 7#64) := by decide

/-- A consumed sequence, and no active decompressor; also for the second clause of DHintCountsRemaining. -/
theorem witness_DNextEndOfSequence :
    programAEnd.faulted = false ∧ programAEnd.dAct = true ∧
    programAEnd.dTp.toNat = programAEnd.mem.tag.length ∧ programA.dAct = false := by decide

/-- A zero tag with each of the causes (a), (b) and, for each stream, (c). -/
theorem witness_DNextBadStream :
    let a : State := { programAMid with dDp := 3#33 }
    let b : State := { programAMid with mem := { programA.mem with disc := [0, 3] } }
    let c16 : State := { programAMid with mem := { programA.mem with disc := [0, 0] } }
    let c32 : State := { programAMid with mem := { programA.mem with o32 := [] } }
    let c64 : State := { programAMid with mem := { programA.mem with disc := [0, 2] } }
    ([a, b, c16, c32, c64].all fun s =>
      !s.faulted && s.dAct && s.mem.tag[s.dTp.toNat]? == some 0#8) = true ∧
    a.dDp.toNat = a.mem.disc.length ∧ b.mem.disc[b.dDp.toNat]? = some 3#2 ∧
    (c16.mem.disc[c16.dDp.toNat]? = some 0#2 ∧ c16.dP16.toNat = c16.mem.o16.length) ∧
    (c32.mem.disc[c32.dDp.toNat]? = some 1#2 ∧ c32.dP32.toNat = c32.mem.o32.length) ∧
    (c64.mem.disc[c64.dDp.toNat]? = some 2#2 ∧ c64.dP64.toNat = c64.mem.o64.length) := by decide

/-- Cursors at both ends of the range. -/
theorem witness_DHintCountsRemaining :
    let s : State := { programAEnd with dTp := 0#33 }
    (programAEnd.faulted = false ∧ programAEnd.dAct = true ∧
      programAEnd.dTp.toNat ≤ programAEnd.mem.tag.length ∧ programAEnd.mem.tag.length ≤ 2 ^ 32) ∧
    (s.faulted = false ∧ s.dAct = true ∧ s.dTp.toNat ≤ s.mem.tag.length ∧
      s.mem.tag.length ≤ 2 ^ 32) := by decide

/-- An element at the last index and an index at the length, in each stream. -/
theorem witness_SLdReadsElement :
    let s : State := { programA with mem := { programA.mem with o64 := [7] } }
    s.faulted = false ∧ s.mem.tag[(6#32).toNat]? = some 0#8 ∧
    s.mem.disc[(2#32).toNat]? = some 1#2 ∧ s.mem.o16[(0#32).toNat]? = some 0#16 ∧
    s.mem.o32[(1#32).toNat]? = some 1543122011#32 ∧ s.mem.o64[(0#32).toNat]? = some 7#64 ∧
    s.mem.tag.length ≤ (7#32).toNat ∧ s.mem.disc.length ≤ (3#32).toNat ∧
    s.mem.o16.length ≤ (1#32).toNat ∧ s.mem.o32.length ≤ (2#32).toNat ∧
    s.mem.o64.length ≤ (1#32).toNat := by decide

/-- One element short of capacity in each stream. -/
theorem witness_SAppAppendsElement :
    (State.resetWith ⟨1, 1, 1, 1, 1⟩).faulted = false ∧ (State.resetWith ⟨1, 1, 1, 1, 1⟩).phase = .opened ∧
    ∀ st, st ∈ [Stream.tag, .disc, .o16, .o32, .o64] →
      (State.resetWith ⟨1, 1, 1, 1, 1⟩).mem.len st < ((State.resetWith ⟨1, 1, 1, 1, 1⟩).caps.get st).toNat := by decide

/-- A sealed form with an appending command, and each stream at capacity. -/
theorem witness_SAppRefusals :
    let s : State := { smallFull with mem := { smallFull.mem with o32 := [9], o64 := [9] } }
    (programA.faulted = false ∧ programA.phase = .sealed ∧ isAppend (.sAppTag 1) = true) ∧
    s.faulted = false ∧ s.phase = .opened ∧ s.mem.tag.length = s.caps.tag.toNat ∧
    s.mem.disc.length = s.caps.disc.toNat ∧ s.mem.o16.length = s.caps.o16.toNat ∧
    s.mem.o32.length = s.caps.o32.toNat ∧ s.mem.o64.length = s.caps.o64.toNat := by decide

/-- The numbers that are not implemented, at both ends of both ranges. -/
theorem witness_SRdReadsWindow :
    (0x0D ≤ (0x0D#8).toNat ∧ (0x0F#8).toNat ≤ 0x0F) ∧ 0x15 ≤ (0x15#8).toNat ∧ 0x15 ≤ (0xFF#8).toNat := by decide

/-- A row and words it accepts, and a word that no row accepts. -/
theorem witness_DecodeFollowsOpcodeMap :
    (⟨"K.DONE", 0xFFFFFFFFFFFFFFFFFF#72, 0x430000000000000000#72⟩ : OpcodeRow) ∈ opcodeMap ∧
    0x430000000000000000#72 &&& 0xFFFFFFFFFFFFFFFFFF#72 = 0x430000000000000000#72 ∧
    ∀ r ∈ opcodeMap, 0x430000000000000001#72 &&& r.mask ≠ r.pattern := by decide

/-- A word that decodes. -/
theorem witness_DecodeEncodeInverse :
    decode 0x710000000000000003#72 = .ok (.sAppDisc 3) := by decide

/-- A saved form that fits, in a block that is not FAULTED. -/
theorem witness_RestoreRebuildsStreams :
    smallFull.faulted = false ∧ Memory.wf smallFull.caps ⟨[0, 5], [1], [], [9], []⟩ = true := by decide

/-- A sequence with a repeat, a decrease and every tier, exactly fitting. -/
theorem witness_CodecRoundTrip :
    (State.resetWith ⟨5, 4, 2, 1, 1⟩).faulted = false ∧
    (State.resetWith ⟨5, 4, 2, 1, 1⟩).caps.ok = true ∧
    capsFit (State.resetWith ⟨5, 4, 2, 1, 1⟩).caps [5#64, 5#64, 300#64, 70000#64, 0#64] := by decide

/-- A sealed consistent form. -/
theorem witness_ConsistentFormYieldsAll :
    programA.faulted = false ∧ programA.phase = .sealed ∧ programA.caps.ok = true ∧
    programA.mem.wf programA.caps = true ∧ programA.mem.consistent := by decide

end Sys2Proof.Tests
end

section
/-! PROOFS. Every command is total (00_scope.md R9): a meaning answers one next state with exactly one
response more and leaves the command channel alone. Shown once for each shared operation, then for every
command, and last for a command word at the head of the channel. -/

namespace Sys2Proof.Machine

/-! ### What it is to answer once -/

/-- The outcome `o`, begun in `s`, is a next state made by one answer to a state whose channels are those
of `s`: the one response that R9 asks of a command. -/
def AnswersOnce (s : State) (o : Result) : Prop :=
  ∃ (u : State) (st : Status) (d : U64),
    o = .next (u.answer st d) ∧ u.inputs = s.inputs ∧ u.responses = s.responses

/-- In terms of the next state alone, an answer is one more response and an untouched command channel. -/
theorem AnswersOnce.exists_next {s : State} {o : Result} (h : AnswersOnce s o) :
    ∃ t r, o = .next t ∧ t.responses = s.responses ++ [r] ∧ t.inputs = s.inputs := by
  obtain ⟨u, st, d, rfl, hinputs, hresponses⟩ := h
  exact ⟨_, responseWord st d, rfl, by simp [hresponses], by simp [hinputs]⟩

/-- `respond` answers once from every state that has kept the channels. -/
theorem answersOnce_respond {s u : State} (st : Status) (d : U64)
    (hinputs : u.inputs = s.inputs := by simp) (hresponses : u.responses = s.responses := by simp) :
    AnswersOnce s (respond st d u) :=
  ⟨u, st, d, rfl, hinputs, hresponses⟩

/-! ### The checks of 60_exceptions.md R279: a refusal is an answer too -/

theorem AnswersOnce.unlessFaulted {s : State} {run : Result} (h : AnswersOnce s run) :
    AnswersOnce s (unlessFaulted run s) := by
  unfold Machine.unlessFaulted
  split
  · exact answersOnce_respond _ _
  · exact h

theorem AnswersOnce.ifOpen {s : State} {run : Result} (h : AnswersOnce s run) :
    AnswersOnce s (ifOpen run s) := by
  unfold Machine.ifOpen
  split
  · exact h
  · exact answersOnce_respond _ _

theorem AnswersOnce.ifSealed {s : State} {run : Result} (h : AnswersOnce s run) :
    AnswersOnce s (ifSealed run s) := by
  unfold Machine.ifSealed
  split
  · exact h
  · exact answersOnce_respond _ _

theorem AnswersOnce.ifActive {s : State} {run : Result} (h : AnswersOnce s run) :
    AnswersOnce s (ifActive run s) := by
  unfold Machine.ifActive
  split
  · exact h
  · exact answersOnce_respond _ _

/-! ### The bodies of the commands -/

/-- A hit, a refill and the fatal condition each answer once, over any tables. -/
theorem cDetangle_answersOnce (T : Tables) (tg : U64) (s : State) :
    AnswersOnce s (cDetangle T tg s) := by
  unfold cDetangle
  split
  · exact answersOnce_respond _ _
  · obtain ⟨bx, yy, sw, fl, hrefill⟩ | ⟨info, hfatal⟩ := missProc_cases T (prefixOf tg) s
    · rw [hrefill]
      exact answersOnce_respond _ _
    · rw [hfatal]
      exact answersOnce_respond _ _

/-- K.PUSH in phase OPEN: FULL, the direct store and the overflow store. -/
theorem pushDelta_answersOnce (v : U64) (s : State) : AnswersOnce s (pushDelta v s) := by
  unfold pushDelta
  dsimp only
  split <;> split <;> exact answersOnce_respond _ _

/-- D.NEXT on a zero tag: the three causes of BADSTREAM and the overflow value. -/
theorem nextOverflow_answersOnce (s : State) : AnswersOnce s (nextOverflow s) := by
  have hbad : AnswersOnce s (badStream s) := answersOnce_respond _ _
  unfold nextOverflow
  split
  · exact hbad
  · split
    · exact hbad
    · split
      · exact hbad
      · exact answersOnce_respond _ _

/-- D.NEXT with an active decompressor: END, the overflow case and the direct value. -/
theorem nextValue_answersOnce (s : State) : AnswersOnce s (nextValue s) := by
  unfold nextValue
  split
  · exact answersOnce_respond _ _
  · split
    · exact nextOverflow_answersOnce s
    · exact answersOnce_respond _ _

theorem loadElement_answersOnce (st : Stream) (idx : U32) (s : State) :
    AnswersOnce s (loadElement st idx s) := by
  unfold loadElement
  split <;> exact answersOnce_respond _ _

theorem appendElement_answersOnce (st : Stream) (v : U64) (s : State) :
    AnswersOnce s (appendElement st v s) := by
  unfold appendElement
  split <;> exact answersOnce_respond _ _

/-- S.RD is the one command with no `FAULTED` check; a number that is not implemented is answered too. -/
theorem execSRd_answersOnce (n : U8) (s : State) : AnswersOnce s (execSRd n s) := by
  unfold execSRd
  split <;> exact answersOnce_respond _ _

/-! ### Every command, every word -/

/-- Each command of the opcode map answers once: its body does, and so does each check before it. -/
theorem exec_answersOnce (i : Instr) (s : State) : AnswersOnce s (exec i s) := by
  cases i with
  | zEnt | zDet | hEnt | hDet | bEnt | bDet => exact (answersOnce_respond _ _).unlessFaulted
  | cNew | kNew | kCap => exact (answersOnce_respond _ _).unlessFaulted
  | cDet t => exact (cDetangle_answersOnce _ t s).unlessFaulted
  | kPush v => exact (pushDelta_answersOnce v s).ifOpen.unlessFaulted
  | kDone => exact (answersOnce_respond _ _).ifOpen.unlessFaulted
  | dStart => exact (answersOnce_respond _ _).ifSealed.unlessFaulted
  | dNext => exact (nextValue_answersOnce s).ifActive.unlessFaulted
  | dHint => exact (answersOnce_respond _ _).ifActive.unlessFaulted
  | sLdTag idx | sLdDisc idx | sLdO16 idx | sLdO32 idx | sLdO64 idx =>
    exact (loadElement_answersOnce _ idx s).unlessFaulted
  | sLenTag | sLenDisc | sLenO16 | sLenO32 | sLenO64 =>
    exact (answersOnce_respond _ _).unlessFaulted
  | sAppTag | sAppDisc | sAppO16 | sAppO32 | sAppO64 =>
    exact (appendElement_answersOnce _ _ s).ifOpen.unlessFaulted
  | sRd n => exact execSRd_answersOnce n s

/-- A word that is no command is answered as well, with ILLEGAL (30_encoding.md R87). -/
theorem State.runWord_answersOnce (s : State) (cmd : CommandWord) : AnswersOnce s (s.runWord cmd) := by
  unfold State.runWord
  split
  · exact exec_answersOnce _ s
  · exact answersOnce_respond _ _

/-- The step on a command word runs the word on the state with the word taken off the channel
(00_scope.md R8). -/
theorem step_of_command {s : State} {cmd : CommandWord} {rest : List Input}
    (h : s.inputs = .command cmd :: rest) :
    step s = State.runWord { s with inputs := rest } cmd := by
  simp [step, h]

/-- Settles O9: the word is run on the state with the word taken off, and every word answers once. -/
theorem everyCommandIsTotal : Obligations.EveryCommandIsTotal := by
  intro s cmd rest h
  rw [step_of_command h]
  exact (State.runWord_answersOnce { s with inputs := rest } cmd).exists_next

end Sys2Proof.Machine
end

section
/-! PROOFS. What the commands write, said once: every next state of a command arises from the state
before it by the named updates, and `enterFault` is among them for the fatal condition of C.DET alone
(43_cached.md R186, 60_exceptions.md R277). -/

namespace Sys2Proof.Machine

/-! ### The updates of the commands, the fatal condition apart -/

/-- `t` arises from `s` by named updates of the commands. `enterFault` and reset are not among them. -/
inductive Written (s : State) : State → Prop
  | refl : Written s s
  | answer {u : State} (st : Status) (d : U64) : Written s u → Written s (u.answer st d)
  | setCache {u : State} (hi : BitVec 48) (bx yy : U32) (sw fl : Bool) :
      Written s u → Written s (u.setCache hi bx yy sw fl)
  | append {u : State} (st : Stream) (v : U64) : Written s u → Written s (u.append st v)
  | newCompressor {u : State} : Written s u → Written s u.newCompressor
  | setKCur {u : State} (v : U64) : Written s u → Written s (u.setKCur v)
  | sealPhase {u : State} : Written s u → Written s u.sealPhase
  | startDecompressor {u : State} : Written s u → Written s u.startDecompressor
  | endDecompressor {u : State} : Written s u → Written s u.endDecompressor
  | addDelta {u : State} (d : U64) : Written s u → Written s (u.addDelta d)
  | advance {u : State} (st : Stream) : Written s u → Written s (u.advance st)

/-- What none of the updates writes. -/
theorem Written.keeps {s t : State} (h : Written s t) :
    t.faulted = s.faulted ∧ t.finfo = s.finfo ∧ t.caps = s.caps := by
  induction h with
  | refl => exact ⟨rfl, rfl, rfl⟩
  | answer | setCache | append | newCompressor | setKCur | sealPhase | startDecompressor
  | endDecompressor | addDelta | advance => simpa

/-- Every next state the outcome `o` can be is written from `s`. -/
def WritesOnly (s : State) (o : Result) : Prop := ∀ t, o = .next t → Written s t

theorem writesOnly_respond {s u : State} (st : Status) (d : U64) (h : Written s u) :
    WritesOnly s (respond st d u) := by
  intro t ht
  rw [← respond_next.1 ht]
  exact h.answer st d

/-! ### The checks of 60_exceptions.md R279: a refusal writes the response only -/

/-- A check that lets the command run or refuses it with one answer. -/
theorem WritesOnly.of_check {s : State} {run o : Result} {refused passed : Prop} {st : Status} {d : U64}
    (h : WritesOnly s run)
    (hcheck : ∀ t, o = .next t ↔ (refused ∧ s.answer st d = t) ∨ (passed ∧ run = .next t)) :
    WritesOnly s o := by
  intro t ht
  obtain ⟨-, rfl⟩ | ⟨-, hrun⟩ := (hcheck t).1 ht
  · exact .answer _ _ .refl
  · exact h t hrun

theorem WritesOnly.unlessFaulted {s : State} {run : Result} (h : WritesOnly s run) :
    WritesOnly s (unlessFaulted run s) :=
  h.of_check fun _ => unlessFaulted_next

theorem WritesOnly.ifOpen {s : State} {run : Result} (h : WritesOnly s run) :
    WritesOnly s (ifOpen run s) :=
  h.of_check fun _ => ifOpen_next

theorem WritesOnly.ifSealed {s : State} {run : Result} (h : WritesOnly s run) :
    WritesOnly s (ifSealed run s) :=
  h.of_check fun _ => ifSealed_next

theorem WritesOnly.ifActive {s : State} {run : Result} (h : WritesOnly s run) :
    WritesOnly s (ifActive run s) :=
  h.of_check fun _ => ifActive_next

/-! ### The bodies of the commands -/

theorem pushDelta_writesOnly (v : U64) (s : State) : WritesOnly s (pushDelta v s) := by
  intro t ht
  obtain rfl | ⟨-, -, rfl⟩ | ⟨w, st, -, -, -, -, rfl⟩ := pushDelta_next ht
  · exact .answer _ _ .refl
  · exact .answer _ _ (.setKCur _ (.append _ _ .refl))
  · exact .answer _ _ (.setKCur _ (.append _ _ (.append _ _ (.append _ _ .refl))))

theorem nextValue_writesOnly (s : State) : WritesOnly s (nextValue s) := by
  intro t ht
  obtain ⟨-, rfl⟩ | ⟨tag, -, -, rfl⟩ | ⟨w, st, delta, -, -, -, -, rfl⟩ | ⟨-, rfl⟩ :=
    nextValue_next ht
  · exact .answer _ _ .refl
  · exact .answer _ _ (.advance _ (.addDelta _ .refl))
  · exact .answer _ _ (.advance _ (.advance _ (.advance _ (.addDelta _ .refl))))
  · exact .answer _ _ (.endDecompressor .refl)

theorem loadElement_writesOnly (st : Stream) (idx : U32) (s : State) :
    WritesOnly s (loadElement st idx s) := by
  intro t ht
  obtain ⟨-, rfl⟩ | ⟨v, -, rfl⟩ := loadElement_next ht
  · exact .answer _ _ .refl
  · exact .answer _ _ .refl

theorem appendElement_writesOnly (st : Stream) (v : U64) (s : State) :
    WritesOnly s (appendElement st v s) := by
  intro t ht
  obtain ⟨-, rfl⟩ | ⟨-, rfl⟩ := appendElement_next ht
  · exact .answer _ _ .refl
  · exact .answer _ _ (.append _ _ .refl)

theorem execSRd_writesOnly (n : U8) (s : State) : WritesOnly s (execSRd n s) := by
  intro t ht
  obtain ⟨-, rfl⟩ | ⟨v, -, rfl⟩ := execSRd_next ht
  · exact .answer _ _ .refl
  · exact .answer _ _ .refl

/-! ### C.DET: a hit, a refill, or the fatal condition -/

/-- A hit answers and writes nothing (43_cached.md R182). -/
theorem cDetangle_of_hit {T : Tables} {tg : U64} {s : State} (h : prefixOf tg = s.cHi) :
    cDetangle T tg s = respond .ok (packPair (applyCache T (chunkOf tg 0) s)) s :=
  if_pos h

/-- The refill of the miss procedure is an update of the cache registers (43_cached.md R184). -/
theorem missProc_ok_written {T : Tables} {hi : BitVec 48} {s s' : State}
    (h : missProc T hi s = .ok s') : Written s s' := by
  obtain ⟨bx, yy, sw, fl, hrefill⟩ | ⟨info, hfatal⟩ := missProc_cases T hi s
  · obtain rfl : s.setCache hi bx yy sw fl = s' := by simpa [hrefill] using h
    exact .setCache _ _ _ _ _ .refl
  · simp [hfatal] at h

/-- The miss procedure fails exactly on a sentinel that is none of the four patterns, and its `FINFO` word
is `hi` over the sentinel's two low bytes (43_cached.md R185, R186). -/
theorem missProc_error_iff {T : Tables} {hi : BitVec 48} {s : State} {info : U64} :
    missProc T hi s = .error info ↔
      classify (byteOf (hDetangle T (sentinelOf hi)).1 0) (byteOf (hDetangle T (sentinelOf hi)).2 0)
        = none ∧
      hi ++ (byteOf (hDetangle T (sentinelOf hi)).1 0 ++ byteOf (hDetangle T (sentinelOf hi)).2 0)
        = info := by
  unfold missProc
  dsimp only
  split <;> simp_all

/-- Over any tables a C.DET writes by the updates, or it missed and raised the fatal condition. -/
theorem cDetangle_written_or_fatal {T : Tables} {tg : U64} {s t : State}
    (h : cDetangle T tg s = .next t) :
    Written s t ∨
    (prefixOf tg ≠ s.cHi ∧ ∃ info, missProc T (prefixOf tg) s = .error info ∧
      (s.enterFault info).answer .fatal info = t) := by
  by_cases hp : prefixOf tg = s.cHi
  · rw [cDetangle_of_hit hp] at h
    exact .inl (writesOnly_respond _ _ .refl t h)
  · obtain ⟨hit, -⟩ | ⟨s', hrefill, rfl⟩ | hfatal := cDetangle_next h
    · exact absurd hit hp
    · exact .inl (.answer _ _ (missProc_ok_written hrefill))
    · exact .inr ⟨hp, hfatal⟩

/-! ### Every command -/

/-- The `FAULTED` check stops every command behind it with (FATAL, 0) (60_exceptions.md R279 (2)). -/
theorem unlessFaulted_of_faulted {s : State} (run : Result) (h : s.faulted = true) :
    unlessFaulted run s = respond .fatal 0#64 s :=
  if_pos h

/-- Every command but S.RD stands behind the `FAULTED` check (60_exceptions.md R277). -/
theorem exec_of_faulted {s : State} {i : Instr} (h : s.faulted = true) (hi : ∀ n, i ≠ .sRd n) :
    exec i s = respond .fatal 0#64 s := by
  cases i
  case sRd n => exact absurd rfl (hi n)
  all_goals exact unlessFaulted_of_faulted _ h

/-- A command that is no C.DET, or runs while `FAULTED = 1`, writes by the updates alone. -/
theorem exec_writesOnly {s : State} {i : Instr} (hi : s.faulted = true ∨ ∀ tg, i ≠ .cDet tg) :
    WritesOnly s (exec i s) := by
  cases i with
  | zEnt | zDet | hEnt | hDet | bEnt | bDet => exact (writesOnly_respond _ _ .refl).unlessFaulted
  | cNew => exact (writesOnly_respond _ _ (.setCache _ _ _ _ _ .refl)).unlessFaulted
  | cDet tg =>
    have hfaulted : s.faulted = true := hi.resolve_right fun hne => hne tg rfl
    rw [exec_of_faulted hfaulted (by simp)]
    exact writesOnly_respond _ _ .refl
  | kNew | kCap => exact (writesOnly_respond _ _ (.newCompressor .refl)).unlessFaulted
  | kPush v => exact (pushDelta_writesOnly v s).ifOpen.unlessFaulted
  | kDone => exact (writesOnly_respond _ _ (.sealPhase .refl)).ifOpen.unlessFaulted
  | dStart => exact (writesOnly_respond _ _ (.startDecompressor .refl)).ifSealed.unlessFaulted
  | dNext => exact (nextValue_writesOnly s).ifActive.unlessFaulted
  | dHint => exact (writesOnly_respond _ _ .refl).ifActive.unlessFaulted
  | sLdTag idx | sLdDisc idx | sLdO16 idx | sLdO32 idx | sLdO64 idx =>
    exact (loadElement_writesOnly _ idx s).unlessFaulted
  | sLenTag | sLenDisc | sLenO16 | sLenO32 | sLenO64 =>
    exact (writesOnly_respond _ _ .refl).unlessFaulted
  | sAppTag | sAppDisc | sAppO16 | sAppO32 | sAppO64 =>
    exact (appendElement_writesOnly _ _ s).ifOpen.unlessFaulted
  | sRd n => exact execSRd_writesOnly n s

/-- What any command can write: the updates, or the fatal condition of a C.DET that ran. -/
theorem exec_written_or_fatal {s t : State} {i : Instr} (h : exec i s = .next t) :
    Written s t ∨
    ∃ tg info, i = .cDet tg ∧ s.faulted = false ∧ (s.enterFault info).answer .fatal info = t := by
  by_cases hi : ∃ tg, i = .cDet tg
  · obtain ⟨tg, rfl⟩ := hi
    obtain ⟨-, rfl⟩ | ⟨hfaulted, hrun⟩ := unlessFaulted_next.1 h
    · exact .inl (.answer _ _ .refl)
    · obtain hwritten | ⟨-, info, -, hfatal⟩ := cDetangle_written_or_fatal hrun
      · exact .inl hwritten
      · exact .inr ⟨tg, info, rfl, hfaulted, hfatal⟩
  · exact .inl (exec_writesOnly (.inr (not_exists.1 hi)) t h)

/-- The capacities are constants of the block (10_state.md R40, R46). -/
theorem exec_next_caps {s t : State} {i : Instr} (h : exec i s = .next t) : t.caps = s.caps := by
  obtain hwritten | ⟨tg, info, -, -, rfl⟩ := exec_written_or_fatal h
  · obtain ⟨-, -, hcaps⟩ := hwritten.keeps
    exact hcaps
  · simp

end Sys2Proof.Machine
end

section
/-! PROOFS. The statements about the state (10_state.md): `FAULTED` and `FINFO` (R27), the reset values
(R44), the system-register window (R38 to R40). -/

namespace Sys2Proof.Machine

/-! ### `FAULTED` and `FINFO` -/

/-- The fields of the `FINFO` word `{hi, a, b}` (10_state.md R27). -/
theorem finfo_layout (hi : BitVec 48) (a b : U8) :
    (hi ++ (a ++ b)).extractLsb' 16 48 = hi ∧ (hi ++ (a ++ b)).extractLsb' 8 8 = a ∧
      (hi ++ (a ++ b)).extractLsb' 0 8 = b := by
  refine ⟨BitVec.extractLsb'_append_eq_left, ?_, ?_⟩
  · rw [BitVec.extractLsb'_append_eq_of_add_le (by decide), BitVec.extractLsb'_append_eq_left]
  · rw [BitVec.extractLsb'_append_eq_of_add_le (by decide), BitVec.extractLsb'_append_eq_right]

/-- The step on a reset event resets the state with the event taken off (70_reset_and_hazards.md R300). -/
theorem step_of_reset {s : State} {rest : List Input} (h : s.inputs = .reset :: rest) :
    step s = .next (State.afterReset { s with inputs := rest }) := by
  simp [step, h]

/-- Settles O13: all commands write by the updates, which leave both elements; the rest is the failing
miss of C.DET, and the two ends of the fault: the refusals while it lasts and the reset. -/
theorem onlyCDetSetsFaulted : Obligations.OnlyCDetSetsFaulted := by
  refine ⟨?_, ?_, ?_, ⟨rfl, rfl⟩, ?_⟩
  · intro s t i h hi
    obtain ⟨hfaulted, hfinfo, -⟩ := (exec_writesOnly hi t h).keeps
    exact ⟨hfaulted, hfinfo⟩
  · intro T s t tg hs h
    obtain hwritten | ⟨hmiss, info, herror, rfl⟩ := cDetangle_written_or_fatal h
    · obtain ⟨hfaulted, hfinfo, -⟩ := hwritten.keeps
      exact .inl ⟨hfaulted.trans hs, hfinfo⟩
    · obtain ⟨hclass, rfl⟩ := missProc_error_iff.1 herror
      exact .inr ⟨rfl, hmiss, hclass, finfo_layout _ _ _⟩
  · intro s i hs hi
    exact exec_of_faulted hs hi
  · intro s rest h
    exact ⟨_, step_of_reset h, rfl, rfl⟩

/-! ### The reset values -/

/-- All five cursors stand at the front of their streams (10_state.md R44). -/
theorem State.resetWith_cursor (c : Caps) (st : Stream) : (State.resetWith c).cursor st = 0#33 := by
  cases st <;> rfl

/-- Settles O7: the fields of the reset state, with the lengths and the cursors for every stream. -/
theorem resetValues : Obligations.ResetValues :=
  ⟨rfl, rfl, rfl, rfl, rfl, rfl, rfl, rfl, rfl, Memory.empty_len, rfl, rfl,
    State.resetWith_cursor _, rfl, rfl, rfl, rfl, rfl⟩

/-! ### The system-register window -/

/-- S.RD of an implemented register answers its value, FAULTED or not (46_streams_sysreg.md R244). -/
theorem exec_sRd_of_some {n : U8} {s : State} {v : U64} (h : sysReg n s = some v) :
    exec (.sRd n) s = .next (s.answer .ok v) := by
  simp [exec, execSRd, h, respond]

/-- S.RD of a number that is not implemented is ILLEGAL (46_streams_sysreg.md R244). -/
theorem exec_sRd_of_none {n : U8} {s : State} (h : sysReg n s = none) :
    exec (.sRd n) s = .next (s.answer .illegal 0#64) := by
  simp [exec, execSRd, h, respondIllegal, respond]

/-- The two gaps of the window (10_state.md R39, R40). -/
theorem sysReg_eq_none_of_gap {n : U8} (s : State)
    (h : (0x0D ≤ n.toNat ∧ n.toNat ≤ 0x0F) ∨ 0x15 ≤ n.toNat) : sysReg n s = none := by
  unfold sysReg
  split
  case h_19 => rfl
  all_goals omega

/-- Flags at the bit positions 0, 1 and 2 add up as 1, 2 and 4. -/
theorem flagBits_toNat : ∀ a b c : Bool,
    (atBit 64 a 0 ||| atBit 64 b 1 ||| atBit 64 c 2).toNat =
      (if a then 1 else 0) + (if b then 2 else 0) + (if c then 4 else 0) := by decide

/-- The bit of `PHASE` (10_state.md R29). -/
theorem Phase.bit_eq_true_iff (p : Phase) : p.bit = true ↔ p = .sealed := by
  cases p <;> simp [Phase.bit]

/-- `STATUS` as a number (10_state.md R37). -/
theorem statusRegister_toNat (s : State) :
    (statusRegister s).toNat = (if s.phase = .sealed then 1 else 0) + (if s.dAct then 2 else 0) +
      (if s.faulted then 4 else 0) := by
  simp only [statusRegister, flagBits_toNat, Phase.bit_eq_true_iff]

/-- `C_ROT` as a number (10_state.md R25). -/
theorem rotRegister_toNat (s : State) :
    (rotRegister s).toNat = (if s.cSwap then 1 else 0) + (if s.cFlip then 2 else 0) := by
  simpa [rotRegister, atBit] using flagBits_toNat s.cSwap s.cFlip false

/-- Settles O57: register by register over the window, then its gaps, then the constant capacities. -/
theorem sRdReadsWindow : Obligations.SRdReadsWindow := by
  intro s
  have hgaps : ∀ n : U8, (0x0D ≤ n.toNat ∧ n.toNat ≤ 0x0F) ∨ 0x15 ≤ n.toNat →
      exec (.sRd n) s = .next (s.answer .illegal 0#64) :=
    fun n hn => exec_sRd_of_none (sysReg_eq_none_of_gap s hn)
  refine ⟨?_, ⟨_, ?_, statusRegister_toNat s⟩, ?_, ?_, ?_, ⟨_, ?_, rotRegister_toNat s⟩, ?_, ?_, ?_,
    ?_, ?_, ?_, ?_, ?_, ?_, ?_, ?_, ?_, hgaps, fun i t => exec_next_caps⟩
  all_goals exact exec_sRd_of_some rfl

end Sys2Proof.Machine
end

section
/-! PROOFS. A word that no row of the opcode map accepts is no command (30_encoding.md R85): what `decode`
tests of a word, the opcode and the must-be-zero bits, is what the mask of some row takes of it. -/

namespace Sys2Proof

/-! ### A word by its two fields -/

@[simp] theorem cmdOp_and (v w : CommandWord) : cmdOp (v &&& w) = cmdOp v &&& cmdOp w :=
  BitVec.extractLsb'_and

@[simp] theorem cmdArg_and (v w : CommandWord) : cmdArg (v &&& w) = cmdArg v &&& cmdArg w :=
  BitVec.extractLsb'_and

/-- A command word is its opcode over its argument (30_encoding.md R81). -/
theorem cmdOp_append_cmdArg (w : CommandWord) : cmdOp w ++ cmdArg w = w :=
  BitVec.extractLsb'_append_extractLsb' (w := 8) (len := 64)

theorem commandWord_ext {v w : CommandWord} (hop : cmdOp v = cmdOp w) (harg : cmdArg v = cmdArg w) :
    v = w := by
  rw [← cmdOp_append_cmdArg v, hop, harg, cmdOp_append_cmdArg]

/-! ### The rows of the opcode map -/

/-- The mask of an argument whose format has operands in the low `k` bits: the must-be-zero bits
(30_encoding.md R83, R84). -/
def mbzMask (k : Nat) : U64 := BitVec.allOnes 64 <<< k

/-- A full argument has no must-be-zero bit. -/
theorem and_mbzMask_64 (arg : U64) : arg &&& mbzMask 64 = 0 :=
  BitVec.and_zero

/-- The must-be-zero bits above an operand of `k` bits are what the mask takes of the argument. -/
theorem and_mbzMask_eq_zero {k : Nat} {arg : U64} (h : arg.extractLsb' k (64 - k) = 0) :
    arg &&& mbzMask k = 0 := by
  apply BitVec.eq_of_getLsbD_eq
  intro i hi
  by_cases hik : i < k
  · simp [mbzMask, hik]
  · have hbit : arg.getLsbD i = false := by
      simpa [Nat.add_sub_cancel' (not_lt.1 hik), show i - k < 64 - k by omega] using
        congrArg (fun v => v.getLsbD (i - k)) h
    simp [hbit]

/-- Every row takes the whole opcode, and its argument has to be zero where it takes it
(30_encoding.md R86). -/
theorem opcodeMap_row : ∀ r ∈ opcodeMap, cmdOp r.mask = BitVec.allOnes 8 ∧ cmdArg r.pattern = 0#64 := by
  decide

/-- A word is accepted by the row of its opcode when its argument is zero under the row's mask. -/
theorem exists_row_of_fields {cmd : CommandWord} {op k : Nat} (hop : (cmdOp cmd).toNat = op)
    (hmbz : cmdArg cmd &&& mbzMask k = 0)
    (hrow : ∃ r ∈ opcodeMap, (cmdOp r.pattern).toNat = op ∧ cmdArg r.mask = mbzMask k) :
    ∃ r ∈ opcodeMap, cmd &&& r.mask = r.pattern := by
  obtain ⟨r, hmem, hrop, hrarg⟩ := hrow
  obtain ⟨hmask, hpattern⟩ := opcodeMap_row r hmem
  refine ⟨r, hmem, commandWord_ext ?_ ?_⟩
  · rw [cmdOp_and, hmask, BitVec.and_allOnes]
    exact BitVec.eq_of_toNat_eq (hop.trans hrop.symm)
  · rw [cmdArg_and, hrarg, hmbz, hpattern]
    rfl

/-! ### `decode` against the rows -/

/-- The must-be-zero check passes on zero bits only (30_encoding.md R85). -/
theorem bits_eq_zero_of_mustBeZero_ok {w : Nat} {bits : BitVec w} {mnemonic : String} {i j : Instr}
    (h : mustBeZero bits mnemonic i = .ok j) : bits = 0 := by
  unfold mustBeZero at h
  split at h
  · assumption
  · contradiction

/-- A word that decodes is accepted by a row. The arms of `decode` are of three kinds: those with no
must-be-zero bit, those whose whole argument must be zero, and those that check the bits above an
operand. -/
theorem exists_row_of_decode_ok {cmd : CommandWord} {i : Instr} (h : decode cmd = .ok i) :
    ∃ r ∈ opcodeMap, cmd &&& r.mask = r.pattern := by
  unfold decode at h
  dsimp only at h
  split at h
  all_goals rename_i hop
  case h_1 | h_2 | h_3 | h_4 | h_5 | h_6 | h_8 | h_10 | h_11 | h_30 =>
    exact exists_row_of_fields hop (and_mbzMask_64 _) (by decide)
  case h_7 | h_9 | h_12 | h_13 | h_14 | h_15 | h_21 | h_22 | h_23 | h_24 | h_25 =>
    have harg : cmdArg cmd = 0 := bits_eq_zero_of_mustBeZero_ok h
    exact exists_row_of_fields (k := 0) hop (by simp [harg]) (by decide)
  case h_16 | h_17 | h_18 | h_19 | h_20 | h_26 | h_27 | h_28 | h_29 | h_31 =>
    have hhigh := and_mbzMask_eq_zero (bits_eq_zero_of_mustBeZero_ok h)
    exact exists_row_of_fields hop hhigh (by decide)
  case h_32 => contradiction

/-- A word that no row accepts does not decode (30_encoding.md R85). -/
theorem exists_decode_error_of_no_row {cmd : CommandWord}
    (h : ∀ r ∈ opcodeMap, cmd &&& r.mask ≠ r.pattern) : ∃ e, decode cmd = .error e := by
  cases hd : decode cmd with
  | ok i =>
    obtain ⟨r, hmem, haccepts⟩ := exists_row_of_decode_ok hd
    exact absurd haccepts (h r hmem)
  | error e => exact ⟨e, rfl⟩

end Sys2Proof

namespace Sys2Proof.Machine

/-- A word that does not decode is answered (ILLEGAL, 0) and nothing else (30_encoding.md R87). -/
theorem State.runWord_of_decode_error {s : State} {cmd : CommandWord} {e : Reject}
    (h : decode cmd = .error e) : s.runWord cmd = .next (s.answer .illegal 0#64) := by
  simp [State.runWord, h, respondIllegal, respond]

/-- Settles O5: the word does not decode, and an undecoded word is answered without a look at the state. -/
theorem illegalWordsAnswered : Obligations.IllegalWordsAnswered := by
  intro s cmd rest hinputs hrows
  obtain ⟨e, he⟩ := exists_decode_error_of_no_row hrows
  rw [step_of_command hinputs, State.runWord_of_decode_error he]
  rfl

end Sys2Proof.Machine
end

section
/-! PROOFS. The data of a response (30_encoding.md R82), as one relation that every command meets: a
refusal carries data 0, a result stands under OK, and the FATAL of the C.DET that sets `FAULTED` carries
`FINFO`. Shown for the checks, for the bodies of the commands, and then for every command. -/

namespace Sys2Proof.Machine

/-! ### The layout of a response word -/

@[simp] theorem rspStatus_responseWord (st : Status) (d : U64) : rspStatus (responseWord st d) = st.code :=
  BitVec.extractLsb'_append_eq_left

@[simp] theorem rspData_responseWord (st : Status) (d : U64) : rspData (responseWord st d) = d :=
  BitVec.extractLsb'_append_eq_right

/-- The codes 8 to 15 are never produced (60_exceptions.md R271). -/
theorem Status.code_toNat_le (st : Status) : st.code.toNat ≤ 7 := by
  cases st <;> decide

/-! ### The rule -/

/-- The status and the data that the command from `s` to `t` may answer; `res` says whether its OK
response carries a result. -/
inductive DataAllowed (res : Bool) (s t : State) : Status → U64 → Prop
  | zero (st : Status) : DataAllowed res s t st 0#64
  | result (d : U64) (hres : res = true) : DataAllowed res s t .ok d
  | fatal (hres : res = true) (hbefore : s.faulted = false) (hafter : t.faulted = true) :
      DataAllowed res s t .fatal t.finfo

/-- Without a result the data is 0, whatever the status. -/
theorem DataAllowed.data_eq_zero {s t : State} {st : Status} {d : U64} (h : DataAllowed false s t st d) :
    d = 0#64 := by
  cases h with
  | zero => rfl
  | result _ hres => contradiction
  | fatal hres => contradiction

/-- Under a status other than OK the data is 0 or the `FINFO` of the fatal condition just raised. -/
theorem DataAllowed.of_code_ne_zero {res : Bool} {s t : State} {st : Status} {d : U64}
    (h : DataAllowed res s t st d) (hst : st.code ≠ 0#4) :
    d = 0#64 ∨ (st.code = 7#4 ∧ s.faulted = false ∧ t.faulted = true ∧ d = t.finfo) := by
  cases h with
  | zero => exact .inl rfl
  | result => exact absurd rfl hst
  | fatal _ hbefore hafter => exact .inr ⟨rfl, hbefore, hafter, rfl⟩

/-- From `s` to `t` one response was produced, and by the rule. -/
def AnsweredByRule (res : Bool) (s t : State) : Prop :=
  ∃ st d, t.responses = s.responses ++ [responseWord st d] ∧ DataAllowed res s t st d

/-- The rule speaks of the last response of `t`. -/
theorem AnsweredByRule.of_responses {res : Bool} {s t : State} {r : ResponseWord}
    (h : AnsweredByRule res s t) (hr : t.responses = s.responses ++ [r]) :
    ∃ st d, r = responseWord st d ∧ DataAllowed res s t st d := by
  obtain ⟨st, d, hresponses, hallowed⟩ := h
  exact ⟨st, d, by simpa [hresponses, eq_comm] using hr, hallowed⟩

theorem answeredByRule_zero {res : Bool} {s u : State} {st : Status}
    (hresponses : u.responses = s.responses := by simp) :
    AnsweredByRule res s (u.answer st 0#64) :=
  ⟨st, 0#64, by simp [hresponses], .zero st⟩

theorem answeredByRule_result {s u : State} {d : U64}
    (hresponses : u.responses = s.responses := by simp) :
    AnsweredByRule true s (u.answer .ok d) :=
  ⟨.ok, d, by simp [hresponses], .result d rfl⟩

/-- The fatal condition of a block that was not FAULTED answers its own `FINFO` word
(60_exceptions.md R277). -/
theorem answeredByRule_enterFault {s : State} {info : U64} (h : s.faulted = false) :
    AnsweredByRule true s ((s.enterFault info).answer .fatal info) :=
  ⟨.fatal, info, by simp, .fatal rfl h rfl⟩

/-- Every next state the outcome `o`, begun in `s`, can be was answered by the rule. -/
def AnswersByRule (res : Bool) (s : State) (o : Result) : Prop :=
  ∀ t, o = .next t → AnsweredByRule res s t

theorem answersByRule_respond_zero {res : Bool} {s u : State} {st : Status}
    (hresponses : u.responses = s.responses := by simp) :
    AnswersByRule res s (respond st 0#64 u) := by
  intro t ht
  obtain rfl := respond_next.1 ht
  exact answeredByRule_zero hresponses

theorem answersByRule_respond_result {s u : State} {d : U64}
    (hresponses : u.responses = s.responses := by simp) :
    AnswersByRule true s (respond .ok d u) := by
  intro t ht
  obtain rfl := respond_next.1 ht
  exact answeredByRule_result hresponses

/-! ### The checks of 60_exceptions.md R279: a refusal answers data 0 -/

section
variable {res : Bool} {s : State} {run : Result}

/-- A check that lets the command run or refuses it with data 0. -/
theorem AnswersByRule.of_check {o : Result} {refused passed : Prop} {st : Status}
    (h : passed → AnswersByRule res s run)
    (hcheck : ∀ t, o = .next t ↔ (refused ∧ s.answer st 0#64 = t) ∨ (passed ∧ run = .next t)) :
    AnswersByRule res s o := by
  intro t ht
  obtain ⟨-, rfl⟩ | ⟨hpassed, hrun⟩ := (hcheck t).1 ht
  · exact answeredByRule_zero
  · exact h hpassed t hrun

/-- Behind the `FAULTED` check the command runs in a block that is not FAULTED. -/
theorem AnswersByRule.unlessFaulted (h : s.faulted = false → AnswersByRule res s run) :
    AnswersByRule res s (unlessFaulted run s) :=
  .of_check h fun _ => unlessFaulted_next

theorem AnswersByRule.ifOpen (h : AnswersByRule res s run) : AnswersByRule res s (ifOpen run s) :=
  .of_check (fun _ => h) fun _ => ifOpen_next

theorem AnswersByRule.ifSealed (h : AnswersByRule res s run) : AnswersByRule res s (ifSealed run s) :=
  .of_check (fun _ => h) fun _ => ifSealed_next

theorem AnswersByRule.ifActive (h : AnswersByRule res s run) : AnswersByRule res s (ifActive run s) :=
  .of_check (fun _ => h) fun _ => ifActive_next

end

/-! ### The bodies of the commands -/

/-- The refill writes the cache registers and no response (43_cached.md R184). -/
theorem missProc_ok_responses {T : Tables} {hi : BitVec 48} {s s' : State}
    (h : missProc T hi s = .ok s') : s'.responses = s.responses := by
  obtain ⟨bx, yy, sw, fl, hrefill⟩ | ⟨info, hfatal⟩ := missProc_cases T hi s
  · obtain rfl : s.setCache hi bx yy sw fl = s' := by simpa [hrefill] using h
    simp
  · simp [hfatal] at h

/-- C.DET over any tables: a result on a hit and after a refill, the `FINFO` word on the failing miss. -/
theorem cDetangle_answersByRule {s : State} (T : Tables) (tg : U64) (h : s.faulted = false) :
    AnswersByRule true s (cDetangle T tg s) := by
  intro t ht
  obtain ⟨-, rfl⟩ | ⟨s', hrefill, rfl⟩ | ⟨info, -, rfl⟩ := cDetangle_next ht
  · exact answeredByRule_result
  · exact answeredByRule_result (missProc_ok_responses hrefill)
  · exact answeredByRule_enterFault h

/-- K.PUSH has no result, stored or refused. -/
theorem pushDelta_answersByRule (res : Bool) (v : U64) (s : State) :
    AnswersByRule res s (pushDelta v s) := by
  intro t ht
  obtain rfl | ⟨-, -, rfl⟩ | ⟨w, st, -, -, -, -, rfl⟩ := pushDelta_next ht <;>
    exact answeredByRule_zero

/-- D.NEXT: END, a direct value, an overflow value, BADSTREAM. -/
theorem nextValue_answersByRule (s : State) : AnswersByRule true s (nextValue s) := by
  intro t ht
  obtain ⟨-, rfl⟩ | ⟨tag, -, -, rfl⟩ | ⟨w, st, delta, -, -, -, -, rfl⟩ | ⟨-, rfl⟩ :=
    nextValue_next ht
  · exact answeredByRule_zero
  · exact answeredByRule_result
  · exact answeredByRule_result
  · exact answeredByRule_zero

theorem loadElement_answersByRule (st : Stream) (idx : U32) (s : State) :
    AnswersByRule true s (loadElement st idx s) := by
  intro t ht
  obtain ⟨-, rfl⟩ | ⟨v, -, rfl⟩ := loadElement_next ht
  · exact answeredByRule_zero
  · exact answeredByRule_result

theorem appendElement_answersByRule (res : Bool) (st : Stream) (v : U64) (s : State) :
    AnswersByRule res s (appendElement st v s) := by
  intro t ht
  obtain ⟨-, rfl⟩ | ⟨-, rfl⟩ := appendElement_next ht <;> exact answeredByRule_zero

theorem execSRd_answersByRule (n : U8) (s : State) : AnswersByRule true s (execSRd n s) := by
  intro t ht
  obtain ⟨-, rfl⟩ | ⟨v, -, rfl⟩ := execSRd_next ht
  · exact answeredByRule_zero
  · exact answeredByRule_result

/-! ### Every command, every word -/

/-- Each command answers by the rule for its own `hasResult`. -/
theorem exec_answersByRule (i : Instr) (s : State) : AnswersByRule (hasResult i) s (exec i s) := by
  cases i with
  | zEnt | zDet | hEnt | hDet | bEnt | bDet =>
    exact .unlessFaulted fun _ => answersByRule_respond_result
  | cNew | kNew | kCap => exact .unlessFaulted fun _ => answersByRule_respond_zero
  | cDet tg => exact .unlessFaulted fun h => cDetangle_answersByRule _ tg h
  | kPush v => exact .unlessFaulted fun _ => (pushDelta_answersByRule _ v s).ifOpen
  | kDone => exact .unlessFaulted fun _ => .ifOpen answersByRule_respond_zero
  | dStart => exact .unlessFaulted fun _ => .ifSealed answersByRule_respond_zero
  | dNext => exact .unlessFaulted fun _ => (nextValue_answersByRule s).ifActive
  | dHint => exact .unlessFaulted fun _ => .ifActive answersByRule_respond_result
  | sLdTag idx | sLdDisc idx | sLdO16 idx | sLdO32 idx | sLdO64 idx =>
    exact .unlessFaulted fun _ => loadElement_answersByRule _ idx s
  | sLenTag | sLenDisc | sLenO16 | sLenO32 | sLenO64 =>
    exact .unlessFaulted fun _ => answersByRule_respond_result
  | sAppTag | sAppDisc | sAppO16 | sAppO32 | sAppO64 =>
    exact .unlessFaulted fun _ => (appendElement_answersByRule _ _ _ s).ifOpen
  | sRd n => exact execSRd_answersByRule n s

/-- A word is answered by the rule of the command it stands for, or with (ILLEGAL, 0). -/
theorem State.runWord_answersByRule (s : State) (cmd : CommandWord) :
    ∃ res, AnswersByRule res s (s.runWord cmd) := by
  unfold State.runWord
  split
  · exact ⟨_, exec_answersByRule _ s⟩
  · exact ⟨false, answersByRule_respond_zero⟩

/-- Settles O10: the layout is that of `responseWord`, and the last response of a step, or of a command
without a result, is one that the rule allows. -/
theorem responseDataRule : Obligations.ResponseDataRule := by
  refine ⟨fun st d => ⟨rspStatus_responseWord st d, rspData_responseWord st d⟩, ?_, ?_⟩
  · intro s t cmd rest r hinputs hstep hr
    rw [step_of_command hinputs] at hstep
    obtain ⟨res, hrule⟩ := State.runWord_answersByRule { s with inputs := rest } cmd
    obtain ⟨st, d, rfl, hallowed⟩ := (hrule t hstep).of_responses hr
    rw [rspStatus_responseWord, rspData_responseWord]
    exact ⟨st.code_toNat_le, hallowed.of_code_ne_zero⟩
  · intro s t i r hi hexec hr
    obtain ⟨st, d, rfl, hallowed⟩ := (exec_answersByRule i s t hexec).of_responses hr
    rw [hi] at hallowed
    rw [rspData_responseWord, hallowed.data_eq_zero]

end Sys2Proof.Machine
end

section
/-! PROOFS. The bit reference (40_bitref.md R112 to R117). The sub-quadrant transform keeps pairs of
`k`-bit fields and is its own inverse; a step of either loop adds one bit to each coordinate and one code
to the index, and step `k` of `bit_detangle` undoes step `k` of `bit_entangle`. -/

namespace Sys2Proof.Machine

/-! ### Masks and single bits of a coordinate -/

theorem toNat_lowMask {k : Nat} (hk : k ≤ 32) : (lowMask k).toNat = 2 ^ k - 1 := by
  obtain rfl | hlt : k = 32 ∨ k < 32 := by omega
  · rfl
  · have hpow : (1#32 <<< k).toNat = 2 ^ k := by
      rw [← BitVec.twoPow_eq, BitVec.toNat_twoPow_of_lt hlt]
    have hle : 1#32 ≤ 1#32 <<< k := BitVec.le_def.2 (hpow ▸ Nat.one_le_two_pow)
    rw [lowMask, BitVec.toNat_sub_of_le hle, hpow]
    rfl

/-- The complement in `k` bits does not underflow (40_bitref.md R112). -/
theorem toNat_lowMask_sub {k : Nat} {v : U32} (hk : k ≤ 32) (hv : v.toNat < 2 ^ k) :
    (lowMask k - v).toNat = 2 ^ k - 1 - v.toNat := by
  have hle : v ≤ lowMask k := BitVec.le_def.2 (by rw [toNat_lowMask hk]; omega)
  rw [BitVec.toNat_sub_of_le hle, toNat_lowMask hk]

theorem toNat_and_lowMask {k : Nat} (hk : k ≤ 32) (v : U32) :
    (v &&& lowMask k).toNat = v.toNat % 2 ^ k := by
  rw [BitVec.toNat_and, toNat_lowMask hk, Nat.and_two_pow_sub_one_eq_mod]

theorem toNat_atBit {k : Nat} (hk : k < 32) (b : Bool) : (atBit 32 b k).toNat = b.toNat * 2 ^ k := by
  cases b
  · simp [atBit]
  · have h := BitVec.toNat_twoPow_of_lt hk
    rw [BitVec.twoPow_eq] at h
    simpa [atBit] using h

theorem toNat_atBit_le {k : Nat} (hk : k < 32) (b : Bool) : (atBit 32 b k).toNat ≤ 2 ^ k := by
  rw [toNat_atBit hk]
  exact mul_le_of_le_one_left (Nat.zero_le _) b.toNat_le

/-- Setting bit `k` above a `k`-bit field does not carry (40_bitref.md R114). -/
theorem toNat_add_atBit {k : Nat} {v : U32} (hk : k < 32) (hv : v.toNat < 2 ^ k) (b : Bool) :
    (v + atBit 32 b k).toNat = v.toNat + b.toNat * 2 ^ k := by
  have hpow : 2 ^ (k + 1) ≤ 2 ^ 32 := Nat.pow_le_pow_right (by omega) (by omega)
  have hbit := toNat_atBit_le hk b
  rw [BitVec.toNat_add_of_lt (by omega), toNat_atBit hk]

theorem toNat_add_atBit_lt {k : Nat} {v : U32} (hk : k < 32) (hv : v.toNat < 2 ^ k) (b : Bool) :
    (v + atBit 32 b k).toNat < 2 ^ (k + 1) := by
  have hbit := toNat_atBit_le hk b
  rw [toNat_add_atBit hk hv, ← toNat_atBit hk]
  omega

theorem getLsbD_add_atBit {k : Nat} {v : U32} (hk : k < 32) (hv : v.toNat < 2 ^ k) (b : Bool) :
    (v + atBit 32 b k).getLsbD k = b := by
  rw [← BitVec.testBit_toNat, toNat_add_atBit hk hv, Nat.testBit_eq_decide_div_mod_eq,
    Nat.add_mul_div_right _ _ (Nat.two_pow_pos k), Nat.div_eq_of_lt hv]
  cases b <;> rfl

theorem add_atBit_and_lowMask {k : Nat} {v : U32} (hk : k < 32) (hv : v.toNat < 2 ^ k) (b : Bool) :
    (v + atBit 32 b k) &&& lowMask k = v := by
  apply BitVec.eq_of_toNat_eq
  rw [toNat_and_lowMask hk.le, toNat_add_atBit hk hv, Nat.add_mul_mod_self_right, Nat.mod_eq_of_lt hv]

theorem and_lowMask_add_atBit {k : Nat} {v : U32} (hk : k < 32) (hv : v.toNat < 2 ^ (k + 1)) :
    (v &&& lowMask k) + atBit 32 (v.getLsbD k) k = v := by
  have hmod := toNat_and_lowMask hk.le v
  have hlow : (v &&& lowMask k).toNat < 2 ^ k := hmod ▸ Nat.mod_lt _ (Nat.two_pow_pos k)
  have hhigh : v.toNat / 2 ^ k < 2 := Nat.div_lt_of_lt_mul (by omega)
  apply BitVec.eq_of_toNat_eq
  rw [toNat_add_atBit hk hlow, hmod, ← BitVec.testBit_toNat, Nat.toNat_testBit,
    Nat.mod_eq_of_lt hhigh, Nat.mul_comm]
  exact Nat.mod_add_div v.toNat (2 ^ k)

/-! ### The sub-quadrant transform -/

@[simp] theorem bitRotate_ry (k : Nat) (p : U32 × U32) (rx : Bool) : bitRotate k p rx true = p := rfl

@[simp] theorem bitRotate_swap (k : Nat) (p : U32 × U32) : bitRotate k p false false = (p.2, p.1) := rfl

@[simp] theorem bitRotate_reflect (k : Nat) (p : U32 × U32) :
    bitRotate k p true false = (lowMask k - p.2, lowMask k - p.1) := rfl

@[simp] theorem bitRotate_bitRotate (k : Nat) (p : U32 × U32) (rx ry : Bool) :
    bitRotate k (bitRotate k p rx ry) rx ry = p := by
  match ry, rx with
  | true, _ => rfl
  | false, false => rfl
  | false, true => simp only [bitRotate_reflect, sub_sub_cancel]

/-- Both coordinates are `k`-bit fields, `a, b < 2^k` (40_bitref.md R112). -/
def FitsIn (k : Nat) (p : U32 × U32) : Prop := p.1.toNat < 2 ^ k ∧ p.2.toNat < 2 ^ k

theorem FitsIn.bitRotate {k : Nat} {p : U32 × U32} (h : FitsIn k p) (hk : k ≤ 32) (rx ry : Bool) :
    FitsIn k (bitRotate k p rx ry) := by
  obtain ⟨hfst, hsnd⟩ := h
  match ry, rx with
  | true, _ => exact ⟨hfst, hsnd⟩
  | false, false => exact ⟨hsnd, hfst⟩
  | false, true =>
    rw [bitRotate_reflect, FitsIn, toNat_lowMask_sub hk hsnd, toNat_lowMask_sub hk hfst]
    omega

theorem fitsIn_and_lowMask {k : Nat} (hk : k ≤ 32) (x y : U32) :
    FitsIn k (x &&& lowMask k, y &&& lowMask k) := by
  rw [FitsIn, toNat_and_lowMask hk, toNat_and_lowMask hk]
  exact ⟨Nat.mod_lt _ (Nat.two_pow_pos k), Nat.mod_lt _ (Nat.two_pow_pos k)⟩

/-- Settles O24: the cases of the transform by its equations, the reflection by the `k`-bit complement. -/
theorem subQuadrantTransform : Obligations.SubQuadrantTransform := by
  intro k a b hk ha hb
  have hk32 : k ≤ 32 := by omega
  have hfits : ∀ rx ry, FitsIn k (bitRotate k (a, b) rx ry) := FitsIn.bitRotate ⟨ha, hb⟩ hk32
  exact ⟨bitRotate_ry k _, bitRotate_swap k _, ⟨toNat_lowMask_sub hk32 hb, toNat_lowMask_sub hk32 ha⟩,
    fun rx ry => ⟨(hfits rx ry).1, (hfits rx ry).2, bitRotate_bitRotate k _ rx ry⟩⟩

/-! ### The codes of an index -/

theorem quadX_quadCode : ∀ rx ry : Bool, quadX (quadCode rx ry) = rx := by decide

theorem quadY_quadCode : ∀ rx ry : Bool, quadY (quadCode rx ry) = ry := by decide

theorem quadCode_quadX_quadY : ∀ q : BitVec 2, quadCode (quadX q) (quadY q) = q := by decide

/-- The loop of `bit_entangle` writes no bit above the codes of its positions. -/
theorem getLsbD_bitEntangleFrom_of_le {k i : Nat} {x y : U32} (hi : 2 * k ≤ i) :
    (bitEntangleFrom k x y).getLsbD i = false := by
  induction k generalizing x y with
  | zero => simp [bitEntangleFrom]
  | succ k ih =>
    have hcode (q : BitVec 2) : q.getLsbD (i - 2 * k) = false := BitVec.getLsbD_of_ge _ _ (by omega)
    simp [bitEntangleFrom, hcode, ih (by omega : 2 * k ≤ i)]

/-- The loop of `bit_detangle` reads only the codes of its positions. -/
theorem bitDetangleTo_congr {k : Nat} {t t' : U64} (h : ∀ i < 2 * k, t.getLsbD i = t'.getLsbD i) :
    bitDetangleTo k t = bitDetangleTo k t' := by
  induction k with
  | zero => rfl
  | succ k ih =>
    have hcode : t.extractLsb' (2 * k) 2 = t'.extractLsb' (2 * k) 2 := by
      apply BitVec.eq_of_getLsbD_eq
      intro i hi
      simp [hi, h (2 * k + i) (by omega)]
    simp only [bitDetangleTo, hcode, ih fun i hi => h i (by omega)]

/-! ### One step of `bit_entangle` -/

/-- The pair that step `k` of `bit_entangle` hands to step `k - 1`: the lower `k` bits, transformed
(40_bitref.md R113). -/
def lowerPair (k : Nat) (x y : U32) : U32 × U32 :=
  bitRotate k (x &&& lowMask k, y &&& lowMask k) (x.getLsbD k) (y.getLsbD k)

theorem bitEntangleFrom_succ (k : Nat) (x y : U32) :
    bitEntangleFrom (k + 1) x y =
      ((quadCode (x.getLsbD k) (y.getLsbD k)).setWidth 64 <<< (2 * k)) |||
        bitEntangleFrom k (lowerPair k x y).1 (lowerPair k x y).2 := rfl

theorem fitsIn_lowerPair {k : Nat} (hk : k ≤ 32) (x y : U32) : FitsIn k (lowerPair k x y) :=
  (fitsIn_and_lowMask hk x y).bitRotate hk _ _

/-- Step `k` leaves the codes below its own to the later steps. -/
theorem getLsbD_bitEntangleFrom_succ_of_lt {k i : Nat} {x y : U32} (hi : i < 2 * k) :
    (bitEntangleFrom (k + 1) x y).getLsbD i =
      (bitEntangleFrom k (lowerPair k x y).1 (lowerPair k x y).2).getLsbD i := by
  simp [bitEntangleFrom_succ, hi]

/-- The code of bit `k` lands in bits `2k+1` and `2k` (40_bitref.md R113). -/
theorem extractLsb'_bitEntangleFrom_succ {k : Nat} {x y : U32} (hk : k < 32) :
    (bitEntangleFrom (k + 1) x y).extractLsb' (2 * k) 2 = quadCode (x.getLsbD k) (y.getLsbD k) := by
  apply BitVec.eq_of_getLsbD_eq
  intro i hi
  have hpos : 2 * k + i < 64 := by omega
  rw [BitVec.getLsbD_extractLsb', bitEntangleFrom_succ, BitVec.getLsbD_or,
    getLsbD_bitEntangleFrom_of_le (Nat.le_add_right (2 * k) i)]
  simp [hi, hpos]

/-! ### One step of `bit_detangle` -/

theorem fitsIn_bitDetangleTo {k : Nat} (hk : k ≤ 32) (t : U64) : FitsIn k (bitDetangleTo k t) := by
  induction k with
  | zero => exact ⟨Nat.one_pos, Nat.one_pos⟩
  | succ k ih =>
    have hrot := (ih (by omega)).bitRotate (by omega)
    exact ⟨toNat_add_atBit_lt hk (hrot _ _).1 _, toNat_add_atBit_lt hk (hrot _ _).2 _⟩

/-- Step `k` sets bit `k` of each coordinate from the code (40_bitref.md R114). -/
theorem getLsbD_bitDetangleTo_succ {k : Nat} (hk : k < 32) (t : U64) :
    (bitDetangleTo (k + 1) t).1.getLsbD k = quadX (t.extractLsb' (2 * k) 2) ∧
    (bitDetangleTo (k + 1) t).2.getLsbD k = quadY (t.extractLsb' (2 * k) 2) := by
  have hrot := (fitsIn_bitDetangleTo hk.le t).bitRotate hk.le
  exact ⟨getLsbD_add_atBit hk (hrot _ _).1 _, getLsbD_add_atBit hk (hrot _ _).2 _⟩

/-- Step `k` of `bit_entangle` takes back what step `k` of `bit_detangle` did to the pair, since the
transform is an involution (40_bitref.md R114). -/
theorem lowerPair_bitDetangleTo_succ {k : Nat} (hk : k < 32) (t : U64) :
    lowerPair k (bitDetangleTo (k + 1) t).1 (bitDetangleTo (k + 1) t).2 = bitDetangleTo k t := by
  have hrot := (fitsIn_bitDetangleTo hk.le t).bitRotate hk.le
  obtain ⟨hx, hy⟩ := getLsbD_bitDetangleTo_succ hk t
  rw [lowerPair, hx, hy, bitDetangleTo, add_atBit_and_lowMask hk (hrot _ _).1,
    add_atBit_and_lowMask hk (hrot _ _).2, bitRotate_bitRotate]

/-- Step `k` of `bit_detangle` takes back what step `k` of `bit_entangle` did to the pair. -/
theorem bitDetangleTo_succ_of_lowerPair {k : Nat} {x y : U32} {t : U64} (hk : k < 32)
    (hfits : FitsIn (k + 1) (x, y))
    (hcode : t.extractLsb' (2 * k) 2 = quadCode (x.getLsbD k) (y.getLsbD k))
    (hlow : bitDetangleTo k t = lowerPair k x y) : bitDetangleTo (k + 1) t = (x, y) := by
  obtain ⟨hx, hy⟩ := hfits
  rw [bitDetangleTo, hcode, quadX_quadCode, quadY_quadCode, hlow, lowerPair, bitRotate_bitRotate,
    and_lowMask_add_atBit hk hx, and_lowMask_add_atBit hk hy]

/-! ### The two loops undo each other -/

theorem bitDetangleTo_bitEntangleFrom {k : Nat} {x y : U32} (hk : k ≤ 32) (hfits : FitsIn k (x, y)) :
    bitDetangleTo k (bitEntangleFrom k x y) = (x, y) := by
  induction k generalizing x y with
  | zero =>
    obtain ⟨hx, hy⟩ := hfits
    have hx0 : x = 0#32 := BitVec.eq_of_toNat_eq (Nat.lt_one_iff.1 hx)
    have hy0 : y = 0#32 := BitVec.eq_of_toNat_eq (Nat.lt_one_iff.1 hy)
    rw [hx0, hy0, bitDetangleTo]
  | succ k ih =>
    refine bitDetangleTo_succ_of_lowerPair hk hfits (extractLsb'_bitEntangleFrom_succ hk) ?_
    rw [bitDetangleTo_congr fun i hi => getLsbD_bitEntangleFrom_succ_of_lt hi]
    exact ih (by omega) (fitsIn_lowerPair (by omega) x y)

/-- The codes are rebuilt up to the position that the pair was decoded to. -/
theorem getLsbD_bitEntangleFrom_bitDetangleTo {k i : Nat} (t : U64) (hk : k ≤ 32) (hi : i < 2 * k) :
    (bitEntangleFrom k (bitDetangleTo k t).1 (bitDetangleTo k t).2).getLsbD i = t.getLsbD i := by
  induction k with
  | zero => omega
  | succ k ih =>
    obtain hlt | ⟨j, rfl⟩ : i < 2 * k ∨ ∃ j, i = 2 * k + j :=
      (lt_or_ge i (2 * k)).imp_right Nat.exists_eq_add_of_le
    · rw [getLsbD_bitEntangleFrom_succ_of_lt hlt, lowerPair_bitDetangleTo_succ hk, ih (by omega) hlt]
    · obtain ⟨hx, hy⟩ := getLsbD_bitDetangleTo_succ hk t
      have hcode := extractLsb'_bitEntangleFrom_succ (x := (bitDetangleTo (k + 1) t).1)
        (y := (bitDetangleTo (k + 1) t).2) hk
      rw [hx, hy, quadCode_quadX_quadY] at hcode
      have hj : j < 2 := by omega
      simpa [hj] using congrArg (BitVec.getLsbD · j) hcode

theorem bitDetangle_bitEntangle (x y : U32) : bitDetangle (bitEntangle x y) = (x, y) :=
  bitDetangleTo_bitEntangleFrom le_rfl ⟨x.isLt, y.isLt⟩

theorem bitEntangle_bitDetangle (t : U64) : bitEntangle (bitDetangle t).1 (bitDetangle t).2 = t :=
  BitVec.eq_of_getLsbD_eq fun _ hi => getLsbD_bitEntangleFrom_bitDetangleTo t le_rfl hi

/-! ### The commands B.ENT and B.DET -/

/-- B.ENT with `FAULTED = 0` (40_bitref.md R115). -/
theorem exec_bEnt {s : State} (x y : U32) (h : s.faulted = false) :
    exec (.bEnt x y) s = .next (s.answer .ok (bitEntangle x y)) :=
  unlessFaulted_next.2 (.inr ⟨h, rfl⟩)

/-- B.DET with `FAULTED = 0` (40_bitref.md R116). -/
theorem exec_bDet {s : State} (t : U64) (h : s.faulted = false) :
    exec (.bDet t) s = .next (s.answer .ok ((bitDetangle t).1 ++ (bitDetangle t).2)) :=
  unlessFaulted_next.2 (.inr ⟨h, rfl⟩)

/-- Settles O25: the two commands behind the `FAULTED` check, and the two loops step against step. -/
theorem bitReferenceInverse : Obligations.BitReferenceInverse :=
  ⟨fun _ h => ⟨fun x y => exec_bEnt x y h, fun t => exec_bDet t h⟩,
    bitDetangle_bitEntangle, bitEntangle_bitDetangle⟩

end Sys2Proof.Machine
end

section
/-! PROOFS. Z-order (41_zorder.md R131 to R136). The tables are read bit by bit, which makes each the
inverse of the other; the two loops are read chunk by chunk and byte by byte over any tables, so they undo
each other as soon as the tables do. -/

namespace Sys2Proof.Machine

/-! ### The tables -/

theorem getLsbD_atBit (w : Nat) (b : Bool) (k i : Nat) :
    (atBit w b k).getLsbD i = (decide (i < w) && (decide (i = k) && b)) := by
  cases b
  · simp [atBit]
  · simp only [atBit, BitVec.getLsbD_shiftLeft, BitVec.getLsbD_setWidth, BitVec.getLsbD_ofBool]
    grind

/-- The even bits of the interleaving are those of `xb`, the odd bits those of `yb` (41_zorder.md R131). -/
theorem getLsbD_interleaveTo (n : Nat) (xb yb : U8) {i : Nat} (hi : i < 8) :
    (interleaveTo n xb yb).getLsbD (2 * i) = (decide (i < n) && xb.getLsbD i) ∧
    (interleaveTo n xb yb).getLsbD (2 * i + 1) = (decide (i < n) && yb.getLsbD i) := by
  induction n with
  | zero => simp [interleaveTo]
  | succ n ih =>
    obtain ⟨heven, hodd⟩ := ih
    simp only [interleaveTo, BitVec.getLsbD_or, getLsbD_atBit, heven, hodd]
    grind

/-- Bit `i` of the byte is bit `2i + odd` of the entry's index (41_zorder.md R132). -/
theorem getLsbD_deinterleaveTo (n odd : Nat) (z : U16) {i : Nat} (hi : i < 8) :
    (deinterleaveTo n odd z).getLsbD i = (decide (i < n) && z.getLsbD (2 * i + odd)) := by
  induction n with
  | zero => simp [deinterleaveTo]
  | succ n ih =>
    rw [deinterleaveTo, BitVec.getLsbD_or, ih, getLsbD_atBit]
    grind

theorem getLsbD_zentT (xb yb : U8) {i : Nat} (hi : i < 8) :
    (zentT xb yb).getLsbD (2 * i) = xb.getLsbD i ∧
    (zentT xb yb).getLsbD (2 * i + 1) = yb.getLsbD i := by
  simpa [zentT, hi] using getLsbD_interleaveTo 8 xb yb hi

theorem getLsbD_zdetT (z : U16) {i : Nat} (hi : i < 8) :
    (zdetT z).1.getLsbD i = z.getLsbD (2 * i) ∧
    (zdetT z).2.getLsbD i = z.getLsbD (2 * i + 1) := by
  simp only [zdetT, getLsbD_deinterleaveTo 8 _ z hi, hi, decide_true, Bool.true_and, Nat.add_zero,
    and_self]

theorem zdetT_zentT (xb yb : U8) : zdetT (zentT xb yb) = (xb, yb) :=
  Prod.ext
    (BitVec.eq_of_getLsbD_eq fun _ hi => (getLsbD_zdetT _ hi).1.trans (getLsbD_zentT xb yb hi).1)
    (BitVec.eq_of_getLsbD_eq fun _ hi => (getLsbD_zdetT _ hi).2.trans (getLsbD_zentT xb yb hi).2)

/-- Every bit of the entry is an even or an odd one. -/
theorem zentT_zdetT (z : U16) : zentT (zdetT z).1 (zdetT z).2 = z := by
  apply BitVec.eq_of_getLsbD_eq
  intro n hn
  obtain ⟨i, rfl | rfl⟩ := Nat.even_or_odd' n
  all_goals
    have hi : i < 8 := by omega
    simp only [getLsbD_zentT _ _ hi, getLsbD_zdetT z hi]

/-- Settles O21: the tables bit by bit, their inverse laws, and three entries. -/
theorem zOrderTables : Obligations.ZOrderTables :=
  ⟨fun xb yb _ hi => getLsbD_zentT xb yb hi, fun z _ hi => getLsbD_zdetT z hi,
    zdetT_zentT, zentT_zdetT, by decide, by decide, by decide⟩

/-! ### Fields of equal width: the bytes of a coordinate, the chunks of an index -/

/-- A field put at position `k` is read back there and leaves the other positions clear. -/
theorem extractLsb'_setWidth_shiftLeft {w m j : Nat} (hj : j < m) (k : Nat) (p : BitVec w) :
    (p.setWidth (w * m) <<< (w * k)).extractLsb' (w * j) w = if j = k then p else 0#w := by
  have hfits : w * (j + 1) ≤ w * m := Nat.mul_le_mul_left w hj
  apply BitVec.eq_of_getLsbD_eq
  intro i hi
  obtain hlt | rfl | hgt := lt_trichotomy j k
  · have hle : w * (j + 1) ≤ w * k := Nat.mul_le_mul_left w hlt
    have hbelow : w * j + i < w * k := by grind
    simp [hlt.ne, hbelow]
  · have hpos : w * j + i < w * m := by grind
    simp [hi, hpos]
  · have hle : w * (k + 1) ≤ w * j := Nat.mul_le_mul_left w hgt
    have habove : w ≤ w * j + i - w * k := by grind
    simp [hgt.ne', BitVec.getLsbD_of_ge p _ habove]

/-- A value is determined by its fields. -/
theorem eq_of_extractLsb'_eq {w m : Nat} {v v' : BitVec (w * m)}
    (h : ∀ j < m, v.extractLsb' (w * j) w = v'.extractLsb' (w * j) w) : v = v' := by
  apply BitVec.eq_of_getLsbD_eq
  intro i hi
  have hw : 0 < w := Nat.pos_of_mul_pos_right (Nat.zero_lt_of_lt hi)
  have hfield := congrArg (BitVec.getLsbD · (i % w)) (h (i / w) (Nat.div_lt_of_lt_mul hi))
  simpa [Nat.mod_lt i hw, Nat.div_add_mod] using hfield

theorem byteOf_atByte {j : Nat} (hj : j < 4) (k : Nat) (b : U8) :
    byteOf (atByte b k) j = if j = k then b else 0#8 :=
  extractLsb'_setWidth_shiftLeft hj k b

theorem chunkOf_atChunk {j : Nat} (hj : j < 4) (k : Nat) (p : U16) :
    chunkOf (atChunk p k) j = if j = k then p else 0#16 :=
  extractLsb'_setWidth_shiftLeft hj k p

theorem eq_of_byteOf_eq {v v' : U32} (h : ∀ j < 4, byteOf v j = byteOf v' j) : v = v' :=
  eq_of_extractLsb'_eq (w := 8) (m := 4) h

theorem eq_of_chunkOf_eq {t t' : U64} (h : ∀ j < 4, chunkOf t j = chunkOf t' j) : t = t' :=
  eq_of_extractLsb'_eq (w := 16) (m := 4) h

theorem byteOf_or (v v' : U32) (j : Nat) : byteOf (v ||| v') j = byteOf v j ||| byteOf v' j :=
  BitVec.extractLsb'_or

theorem chunkOf_or (t t' : U64) (j : Nat) : chunkOf (t ||| t') j = chunkOf t j ||| chunkOf t' j :=
  BitVec.extractLsb'_or

/-! ### The two loops, over any tables -/

/-- Step `j` of the loop writes chunk `j` and no other. -/
theorem chunkOf_zEntangleTo (T : Tables) (n : Nat) (x y : U32) {j : Nat} (hj : j < 4) :
    chunkOf (zEntangleTo T n x y) j = if j < n then T.zent (byteOf x j) (byteOf y j) else 0#16 := by
  induction n with
  | zero => simp [zEntangleTo, chunkOf]
  | succ n ih =>
    rw [zEntangleTo, chunkOf_or, ih, chunkOf_atChunk hj]
    grind

/-- Step `j` of the loop writes byte `j` of each coordinate and no other. -/
theorem byteOf_zDetangleTo (T : Tables) (n : Nat) (t : U64) {j : Nat} (hj : j < 4) :
    byteOf (zDetangleTo T n t).1 j = (if j < n then (T.zdet (chunkOf t j)).1 else 0#8) ∧
    byteOf (zDetangleTo T n t).2 j = (if j < n then (T.zdet (chunkOf t j)).2 else 0#8) := by
  induction n with
  | zero => simp [zDetangleTo, byteOf]
  | succ n ih =>
    obtain ⟨hx, hy⟩ := ih
    simp only [zDetangleTo, byteOf_or, hx, hy, byteOf_atByte hj]
    grind

/-- Chunk `j` of the index is the `ZENT_T` entry of the bytes `j` (41_zorder.md R133). -/
theorem chunkOf_zEntangle (T : Tables) (x y : U32) {j : Nat} (hj : j < 4) :
    chunkOf (zEntangle T x y) j = T.zent (byteOf x j) (byteOf y j) := by
  rw [zEntangle, chunkOf_zEntangleTo T 4 x y hj, if_pos hj]

/-- The bytes `j` of the coordinates are the `ZDET_T` entry of chunk `j` (41_zorder.md R134). -/
theorem byteOf_zDetangle (T : Tables) (t : U64) {j : Nat} (hj : j < 4) :
    byteOf (zDetangle T t).1 j = (T.zdet (chunkOf t j)).1 ∧
    byteOf (zDetangle T t).2 j = (T.zdet (chunkOf t j)).2 := by
  simpa only [zDetangle, if_pos hj] using byteOf_zDetangleTo T 4 t hj

/-- Where `zdet` inverts `zent`, `detangle` inverts `entangle`. -/
theorem zDetangle_zEntangle {T : Tables} (hT : ∀ xb yb, T.zdet (T.zent xb yb) = (xb, yb)) (x y : U32) :
    zDetangle T (zEntangle T x y) = (x, y) := by
  have hbytes : ∀ j < 4, byteOf (zDetangle T (zEntangle T x y)).1 j = byteOf x j ∧
      byteOf (zDetangle T (zEntangle T x y)).2 j = byteOf y j := by
    intro j hj
    simpa only [chunkOf_zEntangle T x y hj, hT] using byteOf_zDetangle T (zEntangle T x y) hj
  exact Prod.ext (eq_of_byteOf_eq fun j hj => (hbytes j hj).1)
    (eq_of_byteOf_eq fun j hj => (hbytes j hj).2)

/-- Where `zent` inverts `zdet`, `entangle` inverts `detangle`. -/
theorem zEntangle_zDetangle {T : Tables} (hT : ∀ z, T.zent (T.zdet z).1 (T.zdet z).2 = z) (t : U64) :
    zEntangle T (zDetangle T t).1 (zDetangle T t).2 = t := by
  apply eq_of_chunkOf_eq
  intro j hj
  obtain ⟨hx, hy⟩ := byteOf_zDetangle T t hj
  rw [chunkOf_zEntangle T _ _ hj, hx, hy, hT]

/-! ### The commands Z.ENT and Z.DET -/

/-- Z.ENT with `FAULTED = 0` (41_zorder.md R133). -/
theorem exec_zEnt {s : State} (x y : U32) (h : s.faulted = false) :
    exec (.zEnt x y) s = .next (s.answer .ok (zEntangle glcoreTables x y)) :=
  unlessFaulted_next.2 (.inr ⟨h, rfl⟩)

/-- Z.DET with `FAULTED = 0` (41_zorder.md R134). -/
theorem exec_zDet {s : State} (t : U64) (h : s.faulted = false) :
    exec (.zDet t) s =
      .next (s.answer .ok ((zDetangle glcoreTables t).1 ++ (zDetangle glcoreTables t).2)) :=
  unlessFaulted_next.2 (.inr ⟨h, rfl⟩)

/-- Settles O20: the two commands behind the `FAULTED` check, and the loops over tables that invert each
other. -/
theorem zOrderBijection : Obligations.ZOrderBijection := by
  refine fun s h => ⟨fun x y => ⟨_, exec_zEnt x y h, ?_⟩, fun t => ⟨_, _, exec_zDet t h, ?_⟩⟩
  · rw [exec_zDet _ h, zDetangle_zEntangle zdetT_zentT]
  · rw [exec_zEnt _ _ h, zEntangle_zDetangle zentT_zdetT]

end Sys2Proof.Machine
end

section
/-! PROOFS. The Hilbert tables and the table-driven walks (42_hilbert.md R152, R155 to R157, R160). The
reference emits equal codes from position `k` up exactly where the coordinates have equal bits from `k` up,
so `HENT_T` and `HDET_T`, which read the top of an index and of a cell, are inverse; the two walks undo
each other over any tables that are. -/

namespace Sys2Proof.Machine

/-! ### The low bits of a coordinate -/

theorem getLsbD_lowMask {k : Nat} (hk : k ≤ 32) (i : Nat) : (lowMask k).getLsbD i = decide (i < k) := by
  rw [← BitVec.testBit_toNat, toNat_lowMask hk, Nat.testBit_two_pow_sub_one]

/-- The complement of a field within its mask (40_bitref.md R112). -/
theorem mask_sub_and_mask {w : Nat} (m v : BitVec w) : m - (v &&& m) = ~~~v &&& m := by
  have hdisjoint : (~~~v &&& m) &&& (v &&& m) = 0#w := by
    ext i
    simp
    grind
  rw [BitVec.sub_eq_iff_eq_add, BitVec.add_eq_or_of_and_eq_zero _ _ hdisjoint]
  ext i
  simp
  grind

/-! ### Equal codes from equal bits (40_bitref.md R118) -/

/-- The two pairs have the same bit `i` in each coordinate. -/
def AgreeAt (p q : U32 × U32) (i : Nat) : Prop :=
  p.1.getLsbD i = q.1.getLsbD i ∧ p.2.getLsbD i = q.2.getLsbD i

/-- The transform moves each bit position as it does the whole field: kept, exchanged, or exchanged and
complemented. -/
theorem getLsbD_lowerPair {k i : Nat} (hk : k ≤ 32) (hi : i < k) (x y : U32) :
    (lowerPair k x y).1.getLsbD i = (if y.getLsbD k then x.getLsbD i else x.getLsbD k ^^ y.getLsbD i) ∧
    (lowerPair k x y).2.getLsbD i = (if y.getLsbD k then y.getLsbD i else x.getLsbD k ^^ x.getLsbD i) := by
  have hlt : i < 32 := by omega
  cases hry : y.getLsbD k <;> cases hrx : x.getLsbD k <;>
    simp [lowerPair, hry, hrx, mask_sub_and_mask, getLsbD_lowMask hk, hi, hlt]

/-- Below a bit position on which two pairs agree, the step of `bit_entangle` transforms both alike. -/
theorem agreeAt_lowerPair_iff {k i : Nat} {p q : U32 × U32} (hk : k ≤ 32) (hi : i < k)
    (h : AgreeAt p q k) :
    AgreeAt (lowerPair k p.1 p.2) (lowerPair k q.1 q.2) i ↔ AgreeAt p q i := by
  obtain ⟨hrx, hry⟩ := h
  simp only [AgreeAt, getLsbD_lowerPair hk hi, hrx, hry]
  split <;> simp [and_comm]

theorem quadCode_inj : ∀ rx ry rx' ry' : Bool,
    quadCode rx ry = quadCode rx' ry' ↔ rx = rx' ∧ ry = ry' := by decide

/-- Step `k` leaves the codes below its own to the later steps. -/
theorem extractLsb'_bitEntangleFrom_succ_of_lt {k j : Nat} (hj : j < k) (x y : U32) :
    (bitEntangleFrom (k + 1) x y).extractLsb' (2 * j) 2 =
      (bitEntangleFrom k (lowerPair k x y).1 (lowerPair k x y).2).extractLsb' (2 * j) 2 := by
  apply BitVec.eq_of_getLsbD_eq
  intro i hi
  have hlt : 2 * j + i < 2 * k := by omega
  simp only [BitVec.getLsbD_extractLsb', getLsbD_bitEntangleFrom_succ_of_lt hlt]

/-- The codes of the positions from `k` up are equal exactly when the bits from `k` up are. -/
theorem bitEntangleFrom_codes_eq_iff {k n : Nat} (hkn : k ≤ n) (hn : n ≤ 32) (p q : U32 × U32) :
    (∀ j < n, k ≤ j → (bitEntangleFrom n p.1 p.2).extractLsb' (2 * j) 2 =
      (bitEntangleFrom n q.1 q.2).extractLsb' (2 * j) 2) ↔ ∀ j < n, k ≤ j → AgreeAt p q j := by
  induction n, hkn using Nat.le_induction generalizing p q with
  | base => grind
  | succ n hkn ih =>
    simp only [Nat.forall_lt_succ_right, hkn, forall_const, extractLsb'_bitEntangleFrom_succ hn,
      quadCode_inj]
    refine and_congr_left fun hagree => ?_
    calc (∀ j < n, k ≤ j → (bitEntangleFrom (n + 1) p.1 p.2).extractLsb' (2 * j) 2 =
          (bitEntangleFrom (n + 1) q.1 q.2).extractLsb' (2 * j) 2)
      _ ↔ ∀ j < n, k ≤ j → AgreeAt (lowerPair n p.1 p.2) (lowerPair n q.1 q.2) j := by
        rw [← ih (by omega)]
        exact forall₂_congr fun j hj => by simp only [extractLsb'_bitEntangleFrom_succ_of_lt hj]
      _ ↔ ∀ j < n, k ≤ j → AgreeAt p q j :=
        forall₂_congr fun j hj => imp_congr_right fun _ => agreeAt_lowerPair_iff (by omega) hj hagree

/-! ### The tables -/

theorem byteOf_three_eq_iff {v v' : U32} :
    byteOf v 3 = byteOf v' 3 ↔ ∀ i < 32, 24 ≤ i → v.getLsbD i = v'.getLsbD i := by
  constructor
  · intro h i hi hle
    have hbit := congrArg (BitVec.getLsbD · (i - 24)) h
    simpa [byteOf, show i - 24 < 8 by omega, Nat.add_sub_cancel' hle] using hbit
  · intro h
    apply BitVec.eq_of_getLsbD_eq
    intro i hi
    simp [byteOf, hi, h (24 + i) (by omega) (by omega)]

/-- The eight codes of the top chunk (42_hilbert.md R151). -/
theorem chunkOf_three_eq_iff {t t' : U64} :
    chunkOf t 3 = chunkOf t' 3 ↔
      ∀ j < 32, 24 ≤ j → t.extractLsb' (2 * j) 2 = t'.extractLsb' (2 * j) 2 := by
  have hcode (t : U64) {i : Nat} (hi : i < 8) :
      (chunkOf t 3).extractLsb' (2 * i) 2 = t.extractLsb' (2 * (24 + i)) 2 := by
    apply BitVec.eq_of_getLsbD_eq
    intro l hl
    have hpos : 2 * i + l < 16 := by omega
    simp [chunkOf, hl, hpos, Nat.mul_add, Nat.add_assoc]
  constructor
  · intro h j hj hle
    have hlt : j - 24 < 8 := by omega
    simpa [hcode _ hlt, Nat.add_sub_cancel' hle] using congrArg (BitVec.extractLsb' (2 * (j - 24)) 2) h
  · intro h
    refine eq_of_extractLsb'_eq (w := 2) (m := 8) fun i hi => ?_
    rw [hcode t hi, hcode t' hi, h (24 + i) (by omega) (by omega)]

/-- The top chunk of the reference index and the top bytes of the cell determine each other. -/
theorem chunkOf_bitEntangle_eq_iff (p q : U32 × U32) :
    chunkOf (bitEntangle p.1 p.2) 3 = chunkOf (bitEntangle q.1 q.2) 3 ↔
      byteOf p.1 3 = byteOf q.1 3 ∧ byteOf p.2 3 = byteOf q.2 3 := by
  rw [chunkOf_three_eq_iff, bitEntangle, bitEntangle,
    bitEntangleFrom_codes_eq_iff (by omega) le_rfl, byteOf_three_eq_iff, byteOf_three_eq_iff]
  simp only [AgreeAt, forall_and]

/-- The probe bit lies below the top byte (42_hilbert.md section 2). -/
theorem byteOf_probe (yb : U8) : byteOf (atByte yb 3 + 0x800000#32) 3 = yb := by
  have hdisjoint : atByte yb 3 &&& 0x800000#32 = 0#32 := by
    rw [show 0x800000#32 = BitVec.twoPow 32 23 from rfl, BitVec.and_twoPow]
    simp [atByte]
  rw [BitVec.add_eq_or_of_and_eq_zero _ _ hdisjoint, byteOf_or, byteOf_atByte (by omega)]
  exact BitVec.or_zero

theorem hentT_eq_chunkOf (xb yb : U8) :
    hentT xb yb = chunkOf (bitEntangle (atByte xb 3) (atByte yb 3 + 0x800000#32)) 3 := rfl

/-- The reference index of the cell at `atChunk p 3` has `p` on top; so the probe tangle of a byte pair has
`p` on top exactly when the pair is the top bytes of that cell (42_hilbert.md R151, R152). -/
theorem hdetT_eq_iff (p : U16) (xb yb : U8) : hdetT p = (xb, yb) ↔ hentT xb yb = p := by
  let cell := bitDetangle (atChunk p 3)
  have hcell : chunkOf (bitEntangle cell.1 cell.2) 3 = p := by
    rw [bitEntangle_bitDetangle, chunkOf_atChunk (by omega), if_pos rfl]
  calc hdetT p = (xb, yb)
    _ ↔ xb = byteOf cell.1 3 ∧ yb = byteOf cell.2 3 := by
      rw [hdetT, Prod.mk_inj, eq_comm, eq_comm (b := yb)]
    _ ↔ chunkOf (bitEntangle (atByte xb 3) (atByte yb 3 + 0x800000#32)) 3 =
          chunkOf (bitEntangle cell.1 cell.2) 3 := by
      rw [chunkOf_bitEntangle_eq_iff (atByte xb 3, atByte yb 3 + 0x800000#32) cell, byteOf_probe,
        byteOf_atByte (by omega), if_pos rfl]
    _ ↔ hentT xb yb = p := by rw [hcell, hentT_eq_chunkOf]

/-- Settles O29: the equivalence, and four entries. -/
theorem hDetTableInvertsHEntTable : Obligations.HDetTableInvertsHEntTable :=
  ⟨hdetT_eq_iff, by decide, by decide, by decide, by decide⟩

/-! ### The transforms of a rotation code (42_hilbert.md R154) -/

/-- The low `m` bits of both coordinates. -/
def maskPair (m : Nat) (p : U32 × U32) : U32 × U32 := (p.1 &&& lowMask m, p.2 &&& lowMask m)

/-- On the low `m` bits, H.DET's transform takes back H.ENT's complement of all 32 bits. -/
theorem swapIf_reflectIf_maskPair (m : Nat) (sw fl : Bool) (p : U32 × U32) :
    swapIf sw (reflectIf fl (lowMask m) (maskPair m (reflectIf fl 0xFFFFFFFF#32 (swapIf sw p)))) =
      maskPair m p := by
  have hreflect (v : U32) : lowMask m - ((0xFFFFFFFF#32 - v) &&& lowMask m) = v &&& lowMask m := by
    rw [mask_sub_and_mask, show (0xFFFFFFFF#32 : U32) = BitVec.allOnes 32 from rfl,
      BitVec.allOnes_sub_eq_not, BitVec.not_not]
  cases sw <;> cases fl <;> simp [swapIf, reflectIf, maskPair, hreflect]

/-- Byte `n` goes on top of the bytes below it (42_hilbert.md R157). -/
theorem and_lowMask_add_atByte {n : Nat} (hn : n < 4) (v : U32) :
    (v &&& lowMask (8 * n)) + atByte (byteOf v n) n = v &&& lowMask (8 * (n + 1)) := by
  have hbit (i : Nat) (hi : i < 32) : (atByte (byteOf v n) n).getLsbD i =
      (decide (8 * n ≤ i ∧ i < 8 * (n + 1)) && v.getLsbD i) := by
    simp only [atByte, byteOf, BitVec.getLsbD_shiftLeft, BitVec.getLsbD_setWidth,
      BitVec.getLsbD_extractLsb']
    grind
  rw [BitVec.add_eq_or_of_and_eq_zero]
  all_goals
    apply BitVec.eq_of_getLsbD_eq
    intro i hi
    simp only [BitVec.getLsbD_or, BitVec.getLsbD_and, BitVec.getLsbD_zero, hbit i hi,
      getLsbD_lowMask (show 8 * n ≤ 32 by omega), getLsbD_lowMask (show 8 * (n + 1) ≤ 32 by omega)]
    grind

/-! ### The two walks, over any tables -/

/-- A partial tangle is accumulated below the chunks already there (42_hilbert.md R156). -/
theorem chunkOf_zero_accumulate (r : U64) (p : U16) :
    chunkOf ((r <<< 16) ||| p.setWidth 64) 0 = p := by
  apply BitVec.eq_of_getLsbD_eq
  intro i hi
  simp [chunkOf, hi, show i < 64 by omega]

theorem chunkOf_succ_accumulate {j : Nat} (hj : j + 1 < 4) (r : U64) (p : U16) :
    chunkOf ((r <<< 16) ||| p.setWidth 64) (j + 1) = chunkOf r j := by
  apply BitVec.eq_of_getLsbD_eq
  intro i hi
  have hpos : 16 * j + i + 16 < 64 := by omega
  have hbit : 16 * (j + 1) + i = 16 * j + i + 16 := by omega
  simp [chunkOf, hi, hbit, hpos, BitVec.getLsbD_eq_getElem (show 16 * j + i < 64 by omega)]

/-- The bytes `n-1` to 0 put their chunks below those already there. -/
theorem chunkOf_hEntangleFrom (T : Tables) {n j : Nat} (hj : n + j < 4) (p : U32 × U32) (r : U64) :
    chunkOf (hEntangleFrom T n p r) (n + j) = chunkOf r j := by
  induction n generalizing p r j with
  | zero => rw [hEntangleFrom, Nat.zero_add]
  | succ n ih =>
    rw [hEntangleFrom, Nat.add_right_comm, Nat.add_assoc, ih (by omega),
      chunkOf_succ_accumulate (by omega)]

/-- The walk of H.DET over the chunks of the bytes `n-1` to 0 returns these bytes: the transform that
H.ENT hands down, H.DET takes back. -/
theorem hDetangleTo_hEntangleFrom {T : Tables} (hT : ∀ xb yb, T.hdet (T.hent xb yb) = (xb, yb))
    {n : Nat} (hn : n ≤ 4) (p : U32 × U32) (r : U64) :
    hDetangleTo T n (hEntangleFrom T n p r) = maskPair (8 * n) p := by
  induction n generalizing p r with
  | zero => exact (Prod.ext BitVec.and_zero BitVec.and_zero).symm
  | succ n ih =>
    have hchunk : chunkOf (hEntangleFrom T (n + 1) p r) n = T.hent (byteOf p.1 n) (byteOf p.2 n) := by
      rw [hEntangleFrom]
      exact (chunkOf_hEntangleFrom T (j := 0) hn _ _).trans (chunkOf_zero_accumulate _ _)
    rw [hDetangleTo, hchunk, hT, hEntangleFrom, ih (by omega), swapIf_reflectIf_maskPair]
    exact Prod.ext (and_lowMask_add_atByte hn p.1) (and_lowMask_add_atByte hn p.2)

theorem hDetangle_hEntangle {T : Tables} (hT : ∀ xb yb, T.hdet (T.hent xb yb) = (xb, yb)) (x y : U32) :
    hDetangle T (hEntangle T x y) = (x, y) :=
  (hDetangleTo_hEntangleFrom hT le_rfl (x, y) 0#64).trans
    (Prod.ext BitVec.and_allOnes BitVec.and_allOnes)

/-- There are as many cells as indexes, so a left inverse is a right inverse. -/
theorem hEntangle_hDetangle {T : Tables} (hT : ∀ xb yb, T.hdet (T.hent xb yb) = (xb, yb)) (t : U64) :
    hEntangle T (hDetangle T t).1 (hDetangle T t).2 = t := by
  have hleft : Function.LeftInverse (hDetangle T) fun p => hEntangle T p.1 p.2 :=
    fun p => hDetangle_hEntangle hT p.1 p.2
  have hcard : Fintype.card U64 ≤ Fintype.card (U32 × U32) := by
    rw [Fintype.card_prod, ← FinEnum.card_eq_fintypeCard, ← FinEnum.card_eq_fintypeCard,
      FinEnum.card_bitVec, FinEnum.card_bitVec]
    norm_num
  exact hleft.rightInverse_of_card_le hcard t

/-! ### The commands H.ENT and H.DET -/

/-- H.ENT with `FAULTED = 0` (42_hilbert.md R156). -/
theorem exec_hEnt {s : State} (x y : U32) (h : s.faulted = false) :
    exec (.hEnt x y) s = .next (s.answer .ok (hEntangle glcoreTables x y)) :=
  unlessFaulted_next.2 (.inr ⟨h, rfl⟩)

/-- H.DET with `FAULTED = 0` (42_hilbert.md R157). -/
theorem exec_hDet {s : State} (t : U64) (h : s.faulted = false) :
    exec (.hDet t) s =
      .next (s.answer .ok ((hDetangle glcoreTables t).1 ++ (hDetangle glcoreTables t).2)) :=
  unlessFaulted_next.2 (.inr ⟨h, rfl⟩)

/-- Settles O33: the two commands behind the `FAULTED` check, and the walks over the block's tables. -/
theorem hilbertBijection : Obligations.HilbertBijection := by
  have hT (xb yb : U8) : hdetT (hentT xb yb) = (xb, yb) := (hdetT_eq_iff _ xb yb).2 rfl
  refine fun s h => ⟨fun x y => ⟨_, exec_hEnt x y h, ?_⟩, fun t => ⟨_, _, exec_hDet t h, ?_⟩⟩
  · rw [exec_hDet _ h, hDetangle_hEntangle hT]
  · rw [exec_hEnt _ _ h, hEntangle_hDetangle hT]

end Sys2Proof.Machine
end

section
/-! PROOFS. The cache registers' reset values (43_cached.md R181, R190): C.NEW puts them there, and the miss
procedure for prefix 0 finds the same. A zero chunk above byte 0 adds nothing and turns nothing in the walk
of H.DET, so the sentinel of prefix 0 keeps its pattern. -/

namespace Sys2Proof.Machine

/-! ### C.NEW -/

/-- C.NEW with `FAULTED = 0` (43_cached.md R181). -/
theorem exec_cNew {s : State} (h : s.faulted = false) :
    exec .cNew s = .next ((s.setCache 0#48 0#32 0#32 false false).answer .ok 0#64) :=
  unlessFaulted_next.2 (.inr ⟨h, rfl⟩)

/-- The whole argument of C.NEW must be zero (30_encoding.md R83, R86). -/
theorem decode_cNew_word (arg : U64) : decode (0x30#8 ++ arg) = mustBeZero arg "C.NEW" .cNew := by
  rw [decode, Sys2Proof.Laws.cmdOp_append, Sys2Proof.Laws.cmdArg_append]
  rfl

/-- Settles O35: the answer of C.NEW behind the `FAULTED` check, and the must-be-zero check on its word. -/
theorem cNewRestoresResetCache : Obligations.CNewRestoresResetCache :=
  ⟨fun _ h => exec_cNew h, fun _ h => exec_of_faulted h nofun, decode_cNew_word⟩

/-! ### The sentinel of prefix 0 -/

theorem hdetT_zero : hdetT 0#16 = (0#8, 0#8) := by decide

theorem hdetT_sentinel : hdetT 0x00FF#16 = (0x0F#8, 0x00#8) := by decide

/-- The byte pair (0, 0) neither exchanges nor reflects the pair below it (42_hilbert.md R153, R154). -/
theorem hrotT_zero : hrotT 0#8 0#8 = 4#4 := by decide

/-- A zero chunk leaves the pair below it as it stands (42_hilbert.md R157). -/
theorem hDetangleTo_succ_of_zero_chunk {d : Nat} {t : U64} (h : chunkOf t d = 0#16) :
    hDetangleTo glcoreTables (d + 1) t = hDetangleTo glcoreTables d t := by
  have hbytes : glcoreTables.hdet (chunkOf t d) = (0#8, 0#8) := by rw [h]; exact hdetT_zero
  have hcode : glcoreTables.hrot 0#8 0#8 = 4#4 := hrotT_zero
  simp [hDetangleTo, hbytes, hcode, rotSwap, rotReflect, swapIf, reflectIf, atByte]

/-- Above its lowest chunk the sentinel of prefix 0 is zero, so that chunk's byte pair stands (43_cached.md
R190). -/
theorem hDetangle_sentinel_zero : hDetangle glcoreTables 0xFF#64 = (0x0F#32, 0x00#32) := by
  have hbytes : glcoreTables.hdet (chunkOf 0xFF#64 0) = (0x0F#8, 0x00#8) := hdetT_sentinel
  rw [hDetangle, hDetangleTo_succ_of_zero_chunk (by decide), hDetangleTo_succ_of_zero_chunk (by decide),
    hDetangleTo_succ_of_zero_chunk (by decide), hDetangleTo, hbytes]
  decide

/-- A sentinel that classifies refills the cache (43_cached.md R184, R185). -/
theorem missProc_of_classify {T : Tables} {hi : BitVec 48} {x y : U32} {sw fl : Bool} (s : State)
    (hsentinel : hDetangle T (sentinelOf hi) = (x, y))
    (hclassify : classify (byteOf x 0) (byteOf y 0) = some (sw, fl)) :
    missProc T hi s = .ok (s.setCache hi (baseOf x) (baseOf y) sw fl) := by
  simp only [missProc, hsentinel, hclassify]

/-- Settles O41: the sentinel of prefix 0 is `0xFF`, and its low bytes are the no-op pattern. -/
theorem resetCacheIsPrefixZero : Obligations.ResetCacheIsPrefixZero :=
  ⟨hDetangle_sentinel_zero,
    fun s => missProc_of_classify (hi := 0#48) s hDetangle_sentinel_zero (by decide)⟩

end Sys2Proof.Machine
end

section
/-! PROOFS. The compressor (44_compressor.md): what each of its four commands does from its phase (R201 to
R205), the words of K.NEW, K.CAP and K.DONE, and K.PUSH tier by tier (R201). -/

namespace Sys2Proof.Machine

/-! ### K.NEW, K.CAP and K.DONE -/

/-- K.NEW with `FAULTED = 0`, in any phase (44_compressor.md R202). -/
theorem exec_kNew {s : State} (h : s.faulted = false) :
    exec .kNew s = .next (s.newCompressor.answer .ok 0#64) :=
  unlessFaulted_next.2 (.inr ⟨h, rfl⟩)

/-- K.CAP is K.NEW, whatever the hint (44_compressor.md R203). -/
theorem exec_kCap_eq_kNew (hint : U64) (s : State) : exec (.kCap hint) s = exec .kNew s := rfl

/-- The whole argument of K.NEW must be zero (30_encoding.md R83, R86). -/
theorem decode_kNew_word (arg : U64) : decode (0x40#8 ++ arg) = mustBeZero arg "K.NEW" .kNew := by
  rw [decode, Sys2Proof.Laws.cmdOp_append, Sys2Proof.Laws.cmdArg_append]
  rfl

/-- The whole argument of K.CAP is its hint (30_encoding.md R83, R86). -/
theorem decode_kCap_word (arg : U64) : decode (0x41#8 ++ arg) = .ok (.kCap arg) := by
  rw [decode, Sys2Proof.Laws.cmdOp_append, Sys2Proof.Laws.cmdArg_append]
  rfl

/-- The whole argument of K.DONE must be zero (30_encoding.md R83, R86). -/
theorem decode_kDone_word (arg : U64) : decode (0x43#8 ++ arg) = mustBeZero arg "K.DONE" .kDone := by
  rw [decode, Sys2Proof.Laws.cmdOp_append, Sys2Proof.Laws.cmdArg_append]
  rfl

/-- Settles O42: K.NEW behind the `FAULTED` check, K.CAP as K.NEW, and the two words. -/
theorem kNewAndKCapEmpty : Obligations.KNewAndKCapEmpty := by
  refine ⟨fun s h => ⟨exec_kNew h, fun hint => ?_⟩,
    fun s h => ⟨exec_of_faulted h nofun, fun _ => exec_of_faulted h nofun⟩,
    fun arg => ⟨decode_kNew_word arg, decode_kCap_word arg⟩⟩
  rw [exec_kCap_eq_kNew]
  exact exec_kNew h

/-- K.DONE in phase OPEN seals the form (44_compressor.md R205). -/
theorem exec_kDone_of_opened {s : State} (h : s.faulted = false) (hphase : s.phase = .opened) :
    exec .kDone s = .next (s.sealPhase.answer .ok 0#64) :=
  unlessFaulted_next.2 (.inr ⟨h, ifOpen_next.2 (.inr ⟨hphase, rfl⟩)⟩)

/-- K.DONE in phase SEALED is refused (60_exceptions.md R274). -/
theorem exec_kDone_of_sealed {s : State} (h : s.faulted = false) (hphase : s.phase = .sealed) :
    exec .kDone s = .next (s.answer .phase 0#64) :=
  unlessFaulted_next.2 (.inr ⟨h, ifOpen_next.2 (.inl ⟨hphase, rfl⟩)⟩)

/-- Settles O45: K.DONE behind its two checks, and the must-be-zero check on its word. -/
theorem kDoneSeals : Obligations.KDoneSeals :=
  ⟨fun _ => exec_kDone_of_opened, fun _ => exec_kDone_of_sealed,
    fun _ h => exec_of_faulted h nofun, decode_kDone_word⟩

/-! ### The tier of a delta (44_compressor.md R201) -/

theorem tierOf_eq_direct {d : U64} (hlow : 1 ≤ d.toNat) (hhigh : d.toNat ≤ 255) :
    tierOf d = .direct :=
  if_pos ⟨hlow, hhigh⟩

/-- Delta 0 has no tag of its own: it goes to `O16` with the deltas above a byte. -/
theorem tierOf_eq_w16 {d : U64} (h : d = 0#64 ∨ (256 ≤ d.toNat ∧ d.toNat ≤ 65535)) :
    tierOf d = .w16 := by
  obtain rfl | ⟨hlow, hhigh⟩ := h
  · rfl
  · rw [tierOf, if_neg (by omega), if_pos (by omega)]

theorem tierOf_eq_w32 {d : U64} (hlow : 65536 ≤ d.toNat) (hhigh : d.toNat ≤ 2 ^ 32 - 1) :
    tierOf d = .w32 := by
  rw [tierOf, if_neg (by omega), if_neg (by omega), if_pos (by omega)]

theorem tierOf_eq_w64 {d : U64} (hlow : 2 ^ 32 ≤ d.toNat) : tierOf d = .w64 := by
  rw [tierOf, if_neg (by omega), if_neg (by omega), if_neg (by omega)]

/-! ### K.PUSH -/

/-- A delta of the direct tier needs room in `TAG` only (44_compressor.md R204). -/
theorem pushDelta_of_overflow_none {v : U64} {s : State}
    (htier : (tierOf (v - s.kCur)).overflow = none) :
    pushDelta v s =
      if s.isFull .tag then respond .full 0#64 s
      else respond .ok 0#64 ((s.append .tag (v - s.kCur)).setKCur v) := by
  simp only [pushDelta, htier]

/-- An overflow delta needs room in `TAG`, in `DISC` and in its own stream (44_compressor.md R204). -/
theorem pushDelta_of_overflow_some {v w : U64} {st : Stream} {s : State}
    (htier : (tierOf (v - s.kCur)).overflow = some (w, st)) :
    pushDelta v s =
      if s.isFull .tag || s.isFull .disc || s.isFull st then respond .full 0#64 s
      else
        respond .ok 0#64
          ((((s.append .tag 0#64).append .disc w).append st (v - s.kCur)).setKCur v) := by
  simp only [pushDelta, htier]

/-- K.PUSH with `FAULTED = 0` and `PHASE = OPEN` runs its body. -/
theorem exec_kPush_of_opened {s : State} (v : U64) (h : s.faulted = false) (hphase : s.phase = .opened) :
    exec (.kPush v) s = pushDelta v s := by
  simp [exec, execKPush, unlessFaulted, ifOpen, h, hphase]

section
variable {s : State} {v : U64}

/-- A direct push with room (44_compressor.md R201). -/
theorem exec_kPush_direct (h : s.faulted = false) (hphase : s.phase = .opened)
    (htier : (tierOf (v - s.kCur)).overflow = none) (htag : s.isFull .tag = false) :
    exec (.kPush v) s = .next (((s.append .tag (v - s.kCur)).setKCur v).answer .ok 0#64) := by
  rw [exec_kPush_of_opened v h hphase, pushDelta_of_overflow_none htier]
  simp [htag, respond]

/-- An overflow push with room in all three streams (44_compressor.md R201). -/
theorem exec_kPush_overflow {w : U64} {st : Stream} (h : s.faulted = false) (hphase : s.phase = .opened)
    (htier : (tierOf (v - s.kCur)).overflow = some (w, st)) (htag : s.isFull .tag = false)
    (hdisc : s.isFull .disc = false) (hst : s.isFull st = false) :
    exec (.kPush v) s =
      .next (((((s.append .tag 0#64).append .disc w).append st (v - s.kCur)).setKCur v).answer
        .ok 0#64) := by
  rw [exec_kPush_of_opened v h hphase, pushDelta_of_overflow_some htier]
  simp [htag, hdisc, hst, respond]

end

/-- The wrapped delta of R201 is the difference of 64-bit words. -/
theorem sub_eq_of_toNat_eq {v cur delta : U64}
    (h : delta.toNat = (v.toNat + 2 ^ 64 - cur.toNat) % 2 ^ 64) : v - cur = delta := by
  apply BitVec.eq_of_toNat_eq
  have hcur := cur.isLt
  rw [BitVec.toNat_sub, h]
  congr 1
  omega

/-- The element stored for a value is the value modulo `2^w` (20_memory.md R66). -/
theorem lowBits_eq_ofNat (w : Nat) (d : U64) : lowBits w d = BitVec.ofNat w d.toNat :=
  (BitVec.ofNat_toNat w d).symm

/-- An element of 64 bits is the whole value. -/
theorem lowBits_64 (d : U64) : lowBits 64 d = d :=
  BitVec.setWidth_eq d

/-- Settles O43: the delta decides the tier, the room premises pass the capacity check of that tier, and
the appended elements are the delta's low bits. -/
theorem kPushStoresByTier : Obligations.KPushStoresByTier := by
  intro s v delta hfaulted hphase hdelta htag
  obtain rfl := sub_eq_of_toNat_eq hdelta
  have room (st : Stream) : s.mem.len st < (s.caps.get st).toNat → s.isFull st = false :=
    (s.isFull_eq_false_iff st).2
  refine ⟨fun hlow hhigh => ?_, fun hdisc => ⟨fun htier hroom => ?_, fun hlow hhigh hroom => ?_,
    fun hlow hroom => ?_⟩⟩
  · rw [exec_kPush_direct hfaulted hphase (congrArg _ (tierOf_eq_direct hlow hhigh)) (room .tag htag)]
    simp only [State.append, Memory.append, lowBits_eq_ofNat]
    rfl
  · rw [exec_kPush_overflow hfaulted hphase (congrArg _ (tierOf_eq_w16 htier)) (room .tag htag)
      (room .disc hdisc) (room .o16 hroom)]
    simp only [State.append, Memory.append, lowBits_eq_ofNat]
    rfl
  · rw [exec_kPush_overflow hfaulted hphase (congrArg _ (tierOf_eq_w32 hlow hhigh)) (room .tag htag)
      (room .disc hdisc) (room .o32 hroom)]
    simp only [State.append, Memory.append, lowBits_eq_ofNat]
    rfl
  · rw [exec_kPush_overflow hfaulted hphase (congrArg _ (tierOf_eq_w64 hlow)) (room .tag htag)
      (room .disc hdisc) (room .o64 hroom)]
    simp only [State.append, Memory.append, lowBits_64]
    rfl

end Sys2Proof.Machine
end

section
/-! PROOFS. The two halves of the block (44_compressor.md R208). That a command neither writes nor reads a
part of the state is one property of its meaning; it passes through the checks of 60_exceptions.md R279
and the choices inside a body, and it is shown for the compressor against the cache registers and for the
curve commands against the compressor, the streams and the decompressor. -/

namespace Sys2Proof.Machine

/-! ### What it is to leave a part of the state alone -/

/-- `run` neither writes nor reads the part of the state that `put s c` takes from `c`. -/
def IndependentOf (put : State → State → State) (run : State → Result) : Prop :=
  ∀ s c t, run s = .next t → put t s = t ∧ run (put s c) = .next (put t c)

section
variable {put : State → State → State} {run run' : State → Result}

/-- An answer after the update `f`, with data `d`, that keeps the part and does not look at it. -/
theorem independentOf_respond (st : Status) (d : State → U64) (f : State → State)
    (hkeeps : ∀ s, put ((f s).answer st (d s)) s = (f s).answer st (d s) := by intros; rfl)
    (hblind : ∀ s c, (f (put s c)).answer st (d (put s c)) = put ((f s).answer st (d s)) c := by
      intros; rfl) :
    IndependentOf put fun s => respond st (d s) (f s) := by
  intro s c t ht
  obtain rfl := respond_next.1 ht
  exact ⟨hkeeps s, respond_next.2 (hblind s c)⟩

/-- A choice that does not look at the part. -/
theorem IndependentOf.ite {p : State → Prop} [∀ s, Decidable (p s)] (h : IndependentOf put run)
    (h' : IndependentOf put run') (hp : ∀ s c, p (put s c) ↔ p s) :
    IndependentOf put fun s => if p s then run s else run' s := by
  intro s c t ht
  by_cases hps : p s
  · simp only [hp, if_pos hps] at ht ⊢
    exact h s c t ht
  · simp only [hp, if_neg hps] at ht ⊢
    exact h' s c t ht

/-- The `FAULTED` check does not look at a part that `FAULTED` is not in. -/
theorem IndependentOf.unlessFaulted (h : IndependentOf put run)
    (hrefusal : IndependentOf put (respond .fatal 0#64) := by exact independentOf_respond _ _ id)
    (hfaulted : ∀ s c, (put s c).faulted = s.faulted := by exact fun _ _ => rfl) :
    IndependentOf put fun s => unlessFaulted (run s) s :=
  hrefusal.ite h fun s c => by rw [hfaulted s c]

/-- The `PHASE` check does not look at a part that `PHASE` is not in. -/
theorem IndependentOf.ifOpen (h : IndependentOf put run)
    (hrefusal : IndependentOf put (respond .phase 0#64) := by exact independentOf_respond _ _ id)
    (hphase : ∀ s c, (put s c).phase = s.phase := by exact fun _ _ => rfl) :
    IndependentOf put fun s => ifOpen (run s) s :=
  h.ite hrefusal fun s c => by rw [hphase s c]

end

/-! ### The compressor and the cache registers -/

/-- Both stores of K.PUSH and its FULL depend on the delta, the capacities and the lengths. -/
theorem pushDelta_independentOf_cache (v : U64) : IndependentOf State.withCacheOf (pushDelta v) := by
  intro s c t ht
  cases htier : (tierOf (v - s.kCur)).overflow with
  | none =>
    rw [pushDelta_of_overflow_none htier] at ht
    rw [pushDelta_of_overflow_none (s := s.withCacheOf c) htier]
    exact IndependentOf.ite (put := State.withCacheOf) (p := fun s => s.isFull .tag = true)
      (independentOf_respond .full (fun _ => 0#64) id)
      (independentOf_respond .ok (fun _ => 0#64) fun s => (s.append .tag (v - s.kCur)).setKCur v)
      (fun _ _ => Iff.rfl) s c t ht
  | some e =>
    obtain ⟨w, st⟩ := e
    rw [pushDelta_of_overflow_some htier] at ht
    rw [pushDelta_of_overflow_some (s := s.withCacheOf c) htier]
    exact IndependentOf.ite (put := State.withCacheOf)
      (p := fun s => (s.isFull .tag || s.isFull .disc || s.isFull st) = true)
      (independentOf_respond .full (fun _ => 0#64) id)
      (independentOf_respond .ok (fun _ => 0#64) fun s =>
        (((s.append .tag 0#64).append .disc w).append st (v - s.kCur)).setKCur v)
      (fun _ _ => Iff.rfl) s c t ht

/-- The four compressor commands leave the cache registers alone. -/
theorem exec_compressor_independentOf_cache {i : Instr} (hi : isCompressor i = true) :
    IndependentOf State.withCacheOf (exec i) := by
  cases i with
  | kNew | kCap => exact .unlessFaulted (independentOf_respond .ok _ State.newCompressor)
  | kPush v => exact (pushDelta_independentOf_cache v).ifOpen.unlessFaulted
  | kDone => exact .unlessFaulted (.ifOpen (independentOf_respond .ok _ State.sealPhase))
  | _ => cases hi

/-! ### The curve commands and the compressor, the streams and the decompressor -/

/-- The refill keeps the codec and is the same over another one (43_cached.md R184, R185). -/
theorem missProc_ok_withCodecOf {T : Tables} {hi : BitVec 48} {s s' : State}
    (h : missProc T hi s = .ok s') (c : State) :
    s'.withCodecOf s = s' ∧ missProc T hi (s.withCodecOf c) = .ok (s'.withCodecOf c) := by
  cases hclass : classify (byteOf (hDetangle T (sentinelOf hi)).1 0)
      (byteOf (hDetangle T (sentinelOf hi)).2 0) with
  | none =>
    have herror := missProc_error_iff (s := s).2 ⟨hclass, rfl⟩
    simp [h] at herror
  | some f =>
    have hrefill (u : State) := missProc_of_classify u rfl hclass
    obtain rfl := Except.ok.inj (h.symm.trans (hrefill s))
    exact ⟨rfl, hrefill (s.withCodecOf c)⟩

/-- A miss whose sentinel classifies answers from the refilled cache (43_cached.md R183). -/
theorem cDetangle_of_refill {T : Tables} {tg : U64} {s s' : State} (hmiss : prefixOf tg ≠ s.cHi)
    (h : missProc T (prefixOf tg) s = .ok s') :
    cDetangle T tg s = respond .ok (packPair (applyCache T (chunkOf tg 0) s')) s' := by
  simp only [cDetangle, if_neg hmiss, h]

/-- A miss whose sentinel does not classify raises the fatal condition (43_cached.md R186). -/
theorem cDetangle_of_fatal {T : Tables} {tg info : U64} {s : State} (hmiss : prefixOf tg ≠ s.cHi)
    (h : missProc T (prefixOf tg) s = .error info) : cDetangle T tg s = raiseFatal info s := by
  simp only [cDetangle, if_neg hmiss, h]

/-- C.DET looks at the cache registers only: on a hit, on a refill and on the fatal condition. -/
theorem cDetangle_independentOf_codec (T : Tables) (tg : U64) :
    IndependentOf State.withCodecOf (cDetangle T tg) := by
  intro s c t ht
  by_cases hp : prefixOf tg = s.cHi
  · rw [cDetangle_of_hit hp] at ht
    obtain rfl := respond_next.1 ht
    exact ⟨rfl, cDetangle_of_hit (s := s.withCodecOf c) hp⟩
  · have hmiss : prefixOf tg ≠ (s.withCodecOf c).cHi := hp
    obtain ⟨hit, -⟩ | ⟨s', hrefill, rfl⟩ | ⟨info, hfatal, rfl⟩ := cDetangle_next ht
    · exact absurd hit hp
    · obtain ⟨hkeeps, hblind⟩ := missProc_ok_withCodecOf hrefill c
      exact ⟨congrArg (State.answer · .ok _) hkeeps, cDetangle_of_refill hmiss hblind⟩
    · have hblind : missProc T (prefixOf tg) (s.withCodecOf c) = .error info :=
        missProc_error_iff.2 (missProc_error_iff.1 hfatal)
      exact ⟨rfl, cDetangle_of_fatal hmiss hblind⟩

/-- The eight curve commands leave the compressor, the streams and the decompressor alone. -/
theorem exec_curve_independentOf_codec {i : Instr} (hi : isCurve i = true) :
    IndependentOf State.withCodecOf (exec i) := by
  cases i with
  | zEnt | zDet | hEnt | hDet | bEnt | bDet => exact .unlessFaulted (independentOf_respond .ok _ id)
  | cNew =>
    exact .unlessFaulted (independentOf_respond .ok _ (State.setCache · 0#48 0#32 0#32 false false))
  | cDet tg => exact (cDetangle_independentOf_codec glcoreTables tg).unlessFaulted
  | _ => cases hi

/-- Settles O18: each half's commands against the other half. -/
theorem curveAndCompressorIndependent : Obligations.CurveAndCompressorIndependent :=
  ⟨fun s c t _ hi ht => exec_compressor_independentOf_cache hi s c t ht,
    fun s c t _ hi ht => exec_curve_independentOf_codec hi s c t ht⟩

end Sys2Proof.Machine
end

section
/-! PROOFS. The status PHASE (60_exceptions.md R274), exactly. The bodies of the commands never answer it and
the `FAULTED` check before them answers FATAL, so it comes from the life-cycle checks alone, each of which
tests what `phaseMet` says of the commands behind it. -/

namespace Sys2Proof.Machine

/-! ### What it is to answer PHASE on an unmet need only -/

/-- PHASE is the one status of code 3 (60_exceptions.md R271). -/
theorem Status.code_eq_three_iff (st : Status) : st.code = 3#4 ↔ st = .phase := by
  cases st <;> decide

/-- From `s` to `t` one response was produced, with PHASE just when `met` fails. -/
def AnsweredPhaseUnless (met : Bool) (s t : State) : Prop :=
  ∃ st d, t.responses = s.responses ++ [responseWord st d] ∧ (st = .phase ↔ met = false)

/-- Every next state the outcome `o`, begun in `s`, can be was answered PHASE just when `met` fails. -/
def PhaseUnless (met : Bool) (s : State) (o : Result) : Prop :=
  ∀ t, o = .next t → AnsweredPhaseUnless met s t

/-- In terms of the response word, its status field is 3 just when `met` fails. -/
theorem PhaseUnless.rspStatus_iff {met : Bool} {s t : State} {o : Result} {r : ResponseWord}
    (h : PhaseUnless met s o) (ht : o = .next t) (hr : t.responses = s.responses ++ [r]) :
    rspStatus r = 3#4 ↔ met = false := by
  obtain ⟨st, d, hresponses, hst⟩ := h t ht
  obtain rfl : r = responseWord st d := by simpa [hresponses, eq_comm] using hr
  rw [rspStatus_responseWord, Status.code_eq_three_iff, hst]

/-- An answer of another status, where the need is met or there is none. -/
theorem answeredPhaseUnless_of_ne_phase {s u : State} {st : Status} {d : U64}
    (hst : st ≠ .phase := by decide) (hresponses : u.responses = s.responses := by simp) :
    AnsweredPhaseUnless true s (u.answer st d) :=
  ⟨st, d, by simp [hresponses], by simp [hst]⟩

theorem phaseUnless_respond {s u : State} {st : Status} {d : U64}
    (hst : st ≠ .phase := by decide) (hresponses : u.responses = s.responses := by simp) :
    PhaseUnless true s (respond st d u) := by
  intro t ht
  obtain rfl := respond_next.1 ht
  exact answeredPhaseUnless_of_ne_phase hst hresponses

/-! ### The checks of 60_exceptions.md R279 -/

section
variable {met : Bool} {s : State} {run : Result}

/-- The `FAULTED` check comes first and refuses with FATAL, so a FAULTED block never answers PHASE. -/
theorem PhaseUnless.unlessFaulted (h : PhaseUnless met s run) :
    PhaseUnless (s.faulted || met) s (unlessFaulted run s) := by
  intro t ht
  obtain ⟨hfaulted, rfl⟩ | ⟨hfaulted, hrun⟩ := unlessFaulted_next.1 ht
  · exact ⟨.fatal, 0#64, rfl, by simp [hfaulted]⟩
  · simpa [hfaulted] using h t hrun

/-- A life-cycle check refuses with PHASE when `met` fails and else lets a body run that never does. -/
theorem PhaseUnless.of_check {o : Result} (h : PhaseUnless true s run)
    (hcheck : ∀ t, o = .next t ↔
      (met = false ∧ s.answer .phase 0#64 = t) ∨ (met = true ∧ run = .next t)) :
    PhaseUnless met s o := by
  intro t ht
  obtain ⟨hmet, rfl⟩ | ⟨hmet, hrun⟩ := (hcheck t).1 ht
  · exact ⟨.phase, 0#64, rfl, by simp [hmet]⟩
  · simpa [hmet] using h t hrun

theorem PhaseUnless.ifOpen (h : PhaseUnless true s run) :
    PhaseUnless (s.phase == .opened) s (ifOpen run s) :=
  h.of_check fun t => by cases hphase : s.phase <;> simp [ifOpen_next, hphase]

theorem PhaseUnless.ifSealed (h : PhaseUnless true s run) :
    PhaseUnless (s.phase == .sealed) s (ifSealed run s) :=
  h.of_check fun t => by cases hphase : s.phase <;> simp [ifSealed_next, hphase]

theorem PhaseUnless.ifActive (h : PhaseUnless true s run) : PhaseUnless s.dAct s (ifActive run s) :=
  h.of_check fun _ => ifActive_next

end

/-! ### The bodies of the commands never answer PHASE -/

theorem cDetangle_phaseUnless (T : Tables) (tg : U64) (s : State) :
    PhaseUnless true s (cDetangle T tg s) := by
  intro t ht
  obtain ⟨-, rfl⟩ | ⟨s', hrefill, rfl⟩ | ⟨info, -, rfl⟩ := cDetangle_next ht
  · exact answeredPhaseUnless_of_ne_phase
  · exact answeredPhaseUnless_of_ne_phase (hresponses := missProc_ok_responses hrefill)
  · exact answeredPhaseUnless_of_ne_phase

theorem pushDelta_phaseUnless (v : U64) (s : State) : PhaseUnless true s (pushDelta v s) := by
  intro t ht
  obtain rfl | ⟨-, -, rfl⟩ | ⟨w, st, -, -, -, -, rfl⟩ := pushDelta_next ht <;>
    exact answeredPhaseUnless_of_ne_phase

theorem nextValue_phaseUnless (s : State) : PhaseUnless true s (nextValue s) := by
  intro t ht
  obtain ⟨-, rfl⟩ | ⟨tag, -, -, rfl⟩ | ⟨w, st, delta, -, -, -, -, rfl⟩ | ⟨-, rfl⟩ :=
    nextValue_next ht <;> exact answeredPhaseUnless_of_ne_phase

theorem loadElement_phaseUnless (st : Stream) (idx : U32) (s : State) :
    PhaseUnless true s (loadElement st idx s) := by
  intro t ht
  obtain ⟨-, rfl⟩ | ⟨v, -, rfl⟩ := loadElement_next ht <;> exact answeredPhaseUnless_of_ne_phase

theorem appendElement_phaseUnless (st : Stream) (v : U64) (s : State) :
    PhaseUnless true s (appendElement st v s) := by
  intro t ht
  obtain ⟨-, rfl⟩ | ⟨-, rfl⟩ := appendElement_next ht <;> exact answeredPhaseUnless_of_ne_phase

theorem execSRd_phaseUnless (n : U8) (s : State) : PhaseUnless true s (execSRd n s) := by
  intro t ht
  obtain ⟨-, rfl⟩ | ⟨v, -, rfl⟩ := execSRd_next ht <;> exact answeredPhaseUnless_of_ne_phase

/-! ### Every command -/

/-- Each command stands behind the life-cycle check of its own `phaseMet`, and that behind `FAULTED`;
S.RD stands behind neither and needs nothing. -/
theorem exec_phaseUnless (i : Instr) (s : State) :
    PhaseUnless (s.faulted || phaseMet s i) s (exec i s) := by
  cases i with
  | zEnt | zDet | hEnt | hDet | bEnt | bDet | cNew | kNew | kCap =>
    exact .unlessFaulted phaseUnless_respond
  | cDet tg => exact (cDetangle_phaseUnless _ tg s).unlessFaulted
  | kPush v => exact (pushDelta_phaseUnless v s).ifOpen.unlessFaulted
  | kDone => exact .unlessFaulted (.ifOpen phaseUnless_respond)
  | dStart => exact .unlessFaulted (.ifSealed phaseUnless_respond)
  | dNext => exact (nextValue_phaseUnless s).ifActive.unlessFaulted
  | dHint => exact .unlessFaulted (.ifActive phaseUnless_respond)
  | sLdTag idx | sLdDisc idx | sLdO16 idx | sLdO32 idx | sLdO64 idx =>
    exact (loadElement_phaseUnless _ idx s).unlessFaulted
  | sLenTag | sLenDisc | sLenO16 | sLenO32 | sLenO64 => exact .unlessFaulted phaseUnless_respond
  | sAppTag | sAppDisc | sAppO16 | sAppO32 | sAppO64 =>
    exact (appendElement_phaseUnless _ _ s).ifOpen.unlessFaulted
  | sRd n =>
    rw [phaseMet, Bool.or_true]
    exact execSRd_phaseUnless n s

/-- Settles O14: the status of the one response, command by command from `exec_phaseUnless`. -/
theorem phaseStatusExactly : Obligations.PhaseStatusExactly := by
  intro s t i r hexec hr
  rw [(exec_phaseUnless i s).rspStatus_iff hexec hr, Bool.or_eq_false_iff]

end Sys2Proof.Machine
end

section
/-! PROOFS. BADSTREAM of D.NEXT (45_decompressor.md R224, 60_exceptions.md R278): what the cursors find, and
the body of D.NEXT on a zero tag that cannot be resolved. -/

namespace Sys2Proof.Machine

/-! ### What a cursor finds -/

section
variable {s : State}

/-- At the length of its stream a cursor finds nothing (45_decompressor.md R224). -/
theorem State.readAtCursor_eq_none {st : Stream} (h : (s.cursor st).toNat = s.mem.len st) :
    s.readAtCursor st = none :=
  (Memory.read_eq_none_iff _ _ _).2 h.ge

theorem State.readAtCursor_tag {tag : U8} (h : s.mem.tag[s.dTp.toNat]? = some tag) :
    s.readAtCursor .tag = some (zext64 tag) :=
  congrArg (Option.map zext64) h

theorem State.readAtCursor_disc {w : BitVec 2} (h : s.mem.disc[s.dDp.toNat]? = some w) :
    s.readAtCursor .disc = some (zext64 w) :=
  congrArg (Option.map zext64) h

/-! ### D.NEXT on a zero tag -/

/-- D.NEXT with `FAULTED = 0` and `D_ACT = 1` on a zero tag goes on to the discriminator. -/
theorem exec_dNext_of_zero_tag (h : s.faulted = false) (hact : s.dAct = true)
    (htag : s.mem.tag[s.dTp.toNat]? = some 0#8) : exec .dNext s = nextOverflow s := by
  have hread : s.readAtCursor .tag = some 0#64 := State.readAtCursor_tag htag
  simp [exec, execDNext, unlessFaulted, ifActive, nextValue, h, hact, hread]

/-- Cause (a): no discriminator (60_exceptions.md R278). -/
theorem nextOverflow_of_no_disc (hdisc : s.readAtCursor .disc = none) :
    nextOverflow s = badStream s := by
  simp only [nextOverflow, hdisc]

/-- Causes (b) and (c): the discriminator names no stream, or one that is exhausted
(60_exceptions.md R278). -/
theorem nextOverflow_of_no_delta {w : BitVec 2} (hdisc : s.mem.disc[s.dDp.toNat]? = some w)
    (hdelta : ∀ st, overflowOf (zext64 w) = some st → (s.cursor st).toNat = s.mem.len st) :
    nextOverflow s = badStream s := by
  simp only [nextOverflow, State.readAtCursor_disc hdisc]
  cases hstream : overflowOf (zext64 w) with
  | none => rfl
  | some st => simp only [State.readAtCursor_eq_none (hdelta st hstream)]

end

/-- Settles O51: the zero tag leads to the discriminator, and each cause from there to `badStream`. -/
theorem dNextBadStream : Obligations.DNextBadStream := by
  intro s h hact htag hcause
  rw [exec_dNext_of_zero_tag h hact htag]
  change nextOverflow s = badStream s
  obtain hend | hdisc | ⟨hdisc, hend⟩ | ⟨hdisc, hend⟩ | ⟨hdisc, hend⟩ := hcause
  · exact nextOverflow_of_no_disc (State.readAtCursor_eq_none hend)
  · exact nextOverflow_of_no_delta hdisc nofun
  all_goals
    refine nextOverflow_of_no_delta hdisc fun st hst => ?_
    obtain rfl := Option.some.inj hst
    exact hend

end Sys2Proof.Machine
end

section
/-! PROOFS. Decoding and encoding (30_encoding.md R81 to R86): the encoder puts a command together from the
row that the decoder takes it apart by, and a row accepts exactly the words that decode to its mnemonic. -/

namespace Sys2Proof

/-- The must-be-zero check passes exactly on zero bits, and then gives the row's command
(30_encoding.md R85). -/
theorem mustBeZero_eq_ok_iff {w : Nat} {bits : BitVec w} {mnemonic : String} {i j : Instr} :
    mustBeZero bits mnemonic i = .ok j ↔ bits = 0 ∧ i = j := by
  unfold mustBeZero
  split <;> simp_all

/-- Decoding the word of a command gives the command back: its opcode selects its row, its must-be-zero bits
are zero and its operands stand in their fields. -/
theorem decode_encode (i : Instr) : decode (encode i) = .ok i := by
  cases i
  all_goals rw [encode, decode, Laws.cmdOp_append, Laws.cmdArg_append]
  case zDet | hDet | bDet | cDet | kCap | kPush | sAppO64 => rfl
  case cNew | kNew | kDone | dStart | dNext | dHint | sLenTag | sLenDisc | sLenO16 | sLenO32 | sLenO64 =>
    rfl
  case zEnt x y | hEnt x y | bEnt x y =>
    have hx : argX (x ++ y) = x := BitVec.extractLsb'_append_eq_left
    have hy : argY (x ++ y) = y := BitVec.extractLsb'_append_eq_right
    simp [hx, hy]
  all_goals
    exact mustBeZero_eq_ok_iff.2
      ⟨BitVec.extractLsb'_append_eq_left, congrArg _ BitVec.extractLsb'_append_eq_right⟩

/-- A word is put together from its opcode's number and its argument. -/
theorem append_eq_of_fields {cmd : CommandWord} {op : Nat} {arg : U64} (hop : (cmdOp cmd).toNat = op)
    (harg : arg = cmdArg cmd) : BitVec.ofNat 8 op ++ arg = cmd := by
  rw [← hop, harg, BitVec.ofNat_toNat, BitVec.setWidth_eq, cmdOp_append_cmdArg]

/-- An argument with a high part of zeros is its operand under zeros. -/
theorem zero_append_eq_of_high_eq_zero {k w : Nat} {arg : BitVec (w + k)}
    (h : arg.extractLsb' k w = 0) : 0#w ++ arg.extractLsb' 0 k = arg := by
  rw [← BitVec.ofNat_eq_ofNat, ← h]
  exact BitVec.extractLsb'_append_extractLsb'

/-- A word that decodes is the encoding of what it decodes to (30_encoding.md R85). -/
theorem encode_eq_of_decode_eq_ok {cmd : CommandWord} {i : Instr} (h : decode cmd = .ok i) :
    encode i = cmd := by
  unfold decode at h
  dsimp only at h
  split at h
  all_goals rename_i hop
  case h_1 | h_3 | h_5 =>
    obtain rfl := Except.ok.inj h
    exact append_eq_of_fields hop (BitVec.extractLsb'_append_extractLsb' (w := 32) (len := 32))
  case h_2 | h_4 | h_6 | h_8 | h_10 | h_11 | h_30 =>
    obtain rfl := Except.ok.inj h
    exact append_eq_of_fields hop rfl
  case h_7 | h_9 | h_12 | h_13 | h_14 | h_15 | h_21 | h_22 | h_23 | h_24 | h_25 =>
    obtain ⟨harg, rfl⟩ := mustBeZero_eq_ok_iff.1 h
    exact append_eq_of_fields hop harg.symm
  case h_16 | h_17 | h_18 | h_19 | h_20 | h_26 | h_27 | h_28 | h_29 | h_31 =>
    obtain ⟨hhigh, rfl⟩ := mustBeZero_eq_ok_iff.1 h
    exact append_eq_of_fields hop (zero_append_eq_of_high_eq_zero hhigh)
  case h_32 => contradiction

/-- Settles O1: each command through its row, each arm of the decoder through the encoder. -/
theorem decodeEncodeInverse : Obligations.DecodeEncodeInverse :=
  ⟨decode_encode, fun _ _ => encode_eq_of_decode_eq_ok⟩

/-! ### The rows and the decoder -/

/-- The rows have different opcodes. -/
theorem opcodeMap_pattern_inj : ∀ r ∈ opcodeMap, ∀ r' ∈ opcodeMap,
    cmdOp r.pattern = cmdOp r'.pattern → r = r' := by
  decide

/-- The rows have different mnemonics. -/
theorem opcodeMap_mnemonic_inj : ∀ r ∈ opcodeMap, ∀ r' ∈ opcodeMap,
    r.mnemonic = r'.mnemonic → r = r' := by
  decide

/-- The word of a command carries the opcode of its row (30_encoding.md R81, R86). -/
theorem cmdOp_encode (i : Instr) : cmdOp (encode i) = i.opcode := by
  cases i
  all_goals exact Laws.cmdOp_append _ _

/-- A row that accepts a word has the word's opcode. -/
theorem cmdOp_eq_of_accepts {cmd : CommandWord} {r : OpcodeRow} (hr : r ∈ opcodeMap)
    (h : cmd &&& r.mask = r.pattern) : cmdOp cmd = cmdOp r.pattern := by
  rw [← h, cmdOp_and, (opcodeMap_row r hr).1, BitVec.and_allOnes]

/-- No two rows accept one word (30_encoding.md R85). -/
theorem row_unique_of_accepts {cmd : CommandWord} {r r' : OpcodeRow} (hr : r ∈ opcodeMap)
    (hr' : r' ∈ opcodeMap) (h : cmd &&& r.mask = r.pattern) (h' : cmd &&& r'.mask = r'.pattern) :
    r = r' :=
  opcodeMap_pattern_inj r hr r' hr'
    ((cmdOp_eq_of_accepts hr h).symm.trans (cmdOp_eq_of_accepts hr' h'))

/-- Each command has one row, of its mnemonic and its opcode (30_encoding.md R86). -/
theorem opcodeMap_row_of_instr (i : Instr) :
    ∃ r ∈ opcodeMap, r.mnemonic = i.mnemonic ∧ cmdOp r.pattern = i.opcode := by
  cases i
  all_goals simp only [Instr.mnemonic, Instr.opcode]; decide


/-- The row that accepts the word of a command is the command's row. -/
theorem mnemonic_eq_of_accepts {cmd : CommandWord} {i : Instr} {r : OpcodeRow} (hd : decode cmd = .ok i)
    (hr : r ∈ opcodeMap) (h : cmd &&& r.mask = r.pattern) : r.mnemonic = i.mnemonic := by
  obtain ⟨r', hr', hmnemonic, hopcode⟩ := opcodeMap_row_of_instr i
  have hop : cmdOp cmd = i.opcode := by
    rw [← encode_eq_of_decode_eq_ok hd]
    exact cmdOp_encode i
  rw [opcodeMap_pattern_inj r hr r' hr' ((cmdOp_eq_of_accepts hr h).symm.trans (hop.trans hopcode.symm)),
    hmnemonic]

/-- The must-be-zero bits of an argument that is zero under its row's mask. -/
theorem high_eq_zero_of_and_mbzMask {k : Nat} {arg : U64} (h : arg &&& mbzMask k = 0) :
    arg.extractLsb' k (64 - k) = 0 := by
  apply BitVec.eq_of_getLsbD_eq
  intro i hi
  have hpos : k + i < 64 := by omega
  have hlow : ¬ 64 ≤ i := by omega
  have hbit := congrArg (BitVec.getLsbD · (k + i)) h
  simp only [mbzMask, BitVec.getLsbD_and, BitVec.getLsbD_shiftLeft, BitVec.getLsbD_allOnes] at hbit
  simpa [hi, hpos, hlow] using hbit

/-- A word with the opcode of a row that accepts it is zero under the mask of that row's argument. -/
theorem cmdArg_and_mbzMask_of_accepts {cmd : CommandWord} {r : OpcodeRow} {op k : Nat}
    (hr : r ∈ opcodeMap) (h : cmd &&& r.mask = r.pattern) (hop : (cmdOp cmd).toNat = op)
    (hmask : ∀ r ∈ opcodeMap, (cmdOp r.pattern).toNat = op → cmdArg r.mask = mbzMask k) :
    cmdArg cmd &&& mbzMask k = 0 := by
  rw [cmdOp_eq_of_accepts hr h] at hop
  rw [← hmask r hr hop, ← cmdArg_and, h, (opcodeMap_row r hr).2]
  rfl

/-- A word that a row accepts decodes: its opcode is in the map, and its must-be-zero bits are zero. -/
theorem exists_decode_ok_of_accepts {cmd : CommandWord} {r : OpcodeRow} (hr : r ∈ opcodeMap)
    (h : cmd &&& r.mask = r.pattern) : ∃ i, decode cmd = .ok i := by
  unfold decode
  dsimp only
  split
  all_goals rename_i hop
  case h_1 | h_2 | h_3 | h_4 | h_5 | h_6 | h_8 | h_10 | h_11 | h_30 => exact ⟨_, rfl⟩
  case h_7 | h_9 | h_12 | h_13 | h_14 | h_15 | h_21 | h_22 | h_23 | h_24 | h_25 =>
    have hbits := cmdArg_and_mbzMask_of_accepts (k := 0) hr h hop (by decide)
    have harg := high_eq_zero_of_and_mbzMask hbits
    rw [BitVec.extractLsb'_eq_self] at harg
    exact ⟨_, mustBeZero_eq_ok_iff.2 ⟨harg, rfl⟩⟩
  case h_16 | h_17 | h_18 | h_19 | h_20 | h_26 | h_27 | h_28 | h_29 | h_31 =>
    refine ⟨_, mustBeZero_eq_ok_iff.2 ⟨high_eq_zero_of_and_mbzMask ?_, rfl⟩⟩
    exact cmdArg_and_mbzMask_of_accepts hr h hop (by decide)
  case h_32 =>
    have hrow := congrArg BitVec.toNat (cmdOp_eq_of_accepts hr h)
    fin_cases hr
    all_goals exact absurd hrow (by assumption)

/-- Settles O2: a row accepts exactly the words that decode to its mnemonic, by the opcode and the
must-be-zero bits; different rows have different opcodes; and the words without a row do not decode. -/
theorem decodeFollowsOpcodeMap : Obligations.DecodeFollowsOpcodeMap := by
  refine ⟨fun cmd r hr => ⟨fun h => ?_, fun ⟨i, hd, hmnemonic⟩ => ?_⟩,
    fun cmd r r' hr hr' => row_unique_of_accepts hr hr', fun cmd => exists_decode_error_of_no_row⟩
  · obtain ⟨i, hd⟩ := exists_decode_ok_of_accepts hr h
    exact ⟨i, hd, (mnemonic_eq_of_accepts hd hr h).symm⟩
  · obtain ⟨r', hr', h'⟩ := exists_row_of_decode_ok hd
    have hsame := (mnemonic_eq_of_accepts hd hr' h').trans hmnemonic
    rwa [opcodeMap_mnemonic_inj r' hr' r hr hsame] at h'

end Sys2Proof
end

section
/-! PROOFS. The reference decoder cut at a bit position (42_hilbert.md R155, R157): the codes above the cut
decode by themselves, and all they do to the fields below it is one turn, an exchange and a reflection. -/

namespace Sys2Proof.Machine

/-! ### Turns -/

/-- The pair of `k`-bit fields turned by the flags `(swap, reflect)`: reflected in `k` bits, then exchanged
(42_hilbert.md R157). -/
def turn (k : Nat) (f : Bool × Bool) (p : U32 × U32) : U32 × U32 :=
  swapIf f.1 (reflectIf f.2 (lowMask k) p)

/-- Two turns' flags in one: both transforms commute and are involutions (42_hilbert.md R155). -/
def joinTurns (f g : Bool × Bool) : Bool × Bool := (f.1 ^^ g.1, f.2 ^^ g.2)

@[simp] theorem turn_none (k : Nat) (p : U32 × U32) : turn k (false, false) p = p := rfl

theorem turn_turn (k : Nat) (f g : Bool × Bool) (p : U32 × U32) :
    turn k f (turn k g p) = turn k (joinTurns f g) p := by
  obtain ⟨sw, fl⟩ := f
  obtain ⟨sw', fl'⟩ := g
  cases sw <;> cases fl <;> cases sw' <;> cases fl' <;>
    simp [turn, joinTurns, swapIf, reflectIf, sub_sub_cancel]

@[simp] theorem turn_self_turn (k : Nat) (f : Bool × Bool) (p : U32 × U32) : turn k f (turn k f p) = p := by
  rw [turn_turn, joinTurns, Bool.xor_self, Bool.xor_self, turn_none]

theorem FitsIn.turn {k : Nat} {p : U32 × U32} (h : FitsIn k p) (hk : k ≤ 32) (f : Bool × Bool) :
    FitsIn k (turn k f p) := by
  obtain ⟨hfst, hsnd⟩ := h
  have hreflect : FitsIn k (reflectIf f.2 (lowMask k) p) := by
    unfold reflectIf
    split
    · rw [FitsIn, toNat_lowMask_sub hk hfst, toNat_lowMask_sub hk hsnd]
      omega
    · exact ⟨hfst, hsnd⟩
  unfold Machine.turn swapIf
  split
  · exact hreflect.symm
  · exact hreflect

/-- The turn a quadrant code hands to the bits below it: code 0 exchanges, code 3 exchanges and reflects,
codes 1 and 2 do nothing (42_hilbert.md R155 (c)). -/
def codeTurn (q : BitVec 2) : Bool × Bool :=
  if q = 0#2 then (true, false) else if q = 3#2 then (true, true) else (false, false)

theorem bitRotate_eq_turn (k : Nat) (p : U32 × U32) (q : BitVec 2) :
    bitRotate k p (quadX q) (quadY q) = turn k (codeTurn q) p := by
  have hcodes : ∀ q : BitVec 2, q = 0#2 ∨ q = 1#2 ∨ q = 2#2 ∨ q = 3#2 := by decide
  obtain rfl | rfl | rfl | rfl := hcodes q
  all_goals rfl

/-- The turn of the `n` lowest codes of an index, together. -/
def turnsOf : Nat → U64 → Bool × Bool
  | 0, _ => (false, false)
  | n + 1, t => joinTurns (codeTurn (t.extractLsb' (2 * n) 2)) (turnsOf n t)

theorem turnsOf_congr {n : Nat} {t t' : U64} (h : ∀ i < 2 * n, t.getLsbD i = t'.getLsbD i) :
    turnsOf n t = turnsOf n t' := by
  induction n with
  | zero => rfl
  | succ n ih =>
    have hcode : t.extractLsb' (2 * n) 2 = t'.extractLsb' (2 * n) 2 := by
      apply BitVec.eq_of_getLsbD_eq
      intro i hi
      simp [hi, h (2 * n + i) (by omega)]
    simp only [turnsOf, hcode, ih fun i hi => h i (by omega)]

/-! ### Cutting the coordinates -/

/-- The pair with the fields of `h` above the `m` low bits, which are those of `l`. -/
def joinPair (m : Nat) (h l : U32 × U32) : U32 × U32 := (h.1 <<< m + l.1, h.2 <<< m + l.2)

theorem shiftLeft_eq_mul (v : U32) (m : Nat) : v <<< m = v * (1#32 <<< m) := by
  rw [BitVec.shiftLeft_eq_mul_twoPow, BitVec.twoPow_eq]

theorem lowMask_sub_join (m n : Nat) (h l : U32) :
    lowMask (m + n) - (h <<< m + l) = (lowMask n - h) <<< m + (lowMask m - l) := by
  have hpow : 1#32 <<< (m + n) = (1#32 <<< m) * (1#32 <<< n) := by
    rw [BitVec.shiftLeft_add, shiftLeft_eq_mul]
  rw [lowMask, lowMask, lowMask, hpow, shiftLeft_eq_mul h, shiftLeft_eq_mul (_ - h),
    show 1#32 = (1 : U32) from rfl]
  ring

/-- A turn acts on the high and on the low fields alike. -/
theorem turn_joinPair (m n : Nat) (f : Bool × Bool) (h l : U32 × U32) :
    turn (m + n) f (joinPair m h l) = joinPair m (turn n f h) (turn m f l) := by
  obtain ⟨sw, fl⟩ := f
  cases sw <;> cases fl <;> simp [turn, joinPair, swapIf, reflectIf, lowMask_sub_join]

/-- The reference decoder cut at bit `m`: the codes above decode by themselves, and turn what the codes
below decode to (42_hilbert.md R155, R157). -/
theorem bitDetangleTo_add (m n : Nat) (t : U64) :
    bitDetangleTo (m + n) t =
      joinPair m (bitDetangleTo n (t >>> (2 * m)))
        (turn m (turnsOf n (t >>> (2 * m))) (bitDetangleTo m t)) := by
  induction n with
  | zero => simp [bitDetangleTo, turnsOf, joinPair]
  | succ n ih =>
    have hcode : t.extractLsb' (2 * (m + n)) 2 = (t >>> (2 * m)).extractLsb' (2 * n) 2 := by
      apply BitVec.eq_of_getLsbD_eq
      intro i hi
      simp [hi, Nat.mul_add, Nat.add_assoc]
    have hbit (b : Bool) : atBit 32 b (m + n) = atBit 32 b n <<< m := by
      rw [atBit, atBit, Nat.add_comm, BitVec.shiftLeft_add]
    have hadd (v w : U32) : (v + w) <<< m = v <<< m + w <<< m := by
      rw [shiftLeft_eq_mul, shiftLeft_eq_mul v, shiftLeft_eq_mul w, add_mul]
    rw [← Nat.add_assoc, bitDetangleTo, ih, bitDetangleTo, hcode, bitRotate_eq_turn, bitRotate_eq_turn,
      turn_joinPair, turn_turn, turnsOf]
    simp only [joinPair, hbit, hadd, Prod.mk.injEq]
    constructor <;> ring

end Sys2Proof.Machine
end

section
/-! PROOFS. The table-driven tangler is the reference (42_hilbert.md R150, R153, R155, R165): a table entry
is the reference cut at eight codes, and a rotation code is the turn of the codes above the cut. -/

namespace Sys2Proof.Machine

/-! ### The table entries as cuts of the reference -/

/-- A byte pair as coordinates. -/
def widePair (b : U8 × U8) : U32 × U32 := (b.1.setWidth 32, b.2.setWidth 32)

theorem chunkOf_zero_shift (t : U64) (d : Nat) : chunkOf (t >>> (2 * (8 * d))) 0 = chunkOf t d := by
  apply BitVec.eq_of_getLsbD_eq
  intro i hi
  simp [chunkOf, hi, ← Nat.mul_assoc]

theorem getLsbD_eq_of_chunkOf_zero_eq {t t' : U64} (h : chunkOf t 0 = chunkOf t' 0) :
    ∀ i < 2 * 8, t.getLsbD i = t'.getLsbD i := by
  intro i hi
  simpa [chunkOf, show i < 16 from hi] using congrArg (BitVec.getLsbD · i) h

/-- Byte 3 of a coordinate cut at bit 24. -/
theorem byteOf_three_cut {v l : U32} (hl : l.toNat < 2 ^ 24) : byteOf (v <<< 24 + l) 3 = v.setWidth 8 := by
  apply BitVec.eq_of_toNat_eq
  simp only [byteOf, BitVec.extractLsb'_toNat, BitVec.toNat_add, BitVec.toNat_shiftLeft,
    BitVec.toNat_setWidth, Nat.shiftRight_eq_div_pow, Nat.shiftLeft_eq]
  omega

theorem setWidth_setWidth_of_lt {v : U32} (h : v.toNat < 2 ^ 8) : (v.setWidth 8).setWidth 32 = v := by
  apply BitVec.eq_of_toNat_eq
  simp only [BitVec.toNat_setWidth]
  omega

/-- `HDET_T` holds what the reference decodes of eight codes (42_hilbert.md R152). -/
theorem widePair_hdetT (t : U64) : widePair (hdetT (chunkOf t 0)) = bitDetangleTo 8 t := by
  have hlow : chunkOf (atChunk (chunkOf t 0) 3 >>> (2 * 24)) 0 = chunkOf t 0 := by
    rw [chunkOf_zero_shift _ 3, chunkOf_atChunk (by omega), if_pos rfl]
  have hcut := bitDetangleTo_add 24 8 (atChunk (chunkOf t 0) 3)
  rw [bitDetangleTo_congr (getLsbD_eq_of_chunkOf_zero_eq hlow)] at hcut
  obtain ⟨hl1, hl2⟩ := (fitsIn_bitDetangleTo (k := 24) (by omega) (atChunk (chunkOf t 0) 3)).turn
    (by omega) (turnsOf 8 (atChunk (chunkOf t 0) 3 >>> (2 * 24)))
  obtain ⟨h1, h2⟩ := fitsIn_bitDetangleTo (k := 8) (by omega) t
  rw [hdetT, bitDetangle, hcut]
  simp only [joinPair, widePair, byteOf_three_cut hl1, byteOf_three_cut hl2,
    setWidth_setWidth_of_lt h1, setWidth_setWidth_of_lt h2]

/-- The two flags of a rotation code (42_hilbert.md R154). -/
def rotTurn (c : BitVec 4) : Bool × Bool := (rotSwap c, rotReflect c)

/-- The rotation code of a turn: what the probe's two codes below the byte become under it
(42_hilbert.md R153). -/
theorem probe_codes_of_turn (f : Bool × Bool) :
    let p := turn 24 f (0#32, 0x800000#32)
    rotTurn ((bitEntangleFrom 24 p.1 p.2).extractLsb' 44 4) = f ∧
      (bitEntangleFrom 24 p.1 p.2).extractLsb' 44 4 ∈ [4#4, 14#4, 12#4, 6#4] := by
  revert f
  decide

theorem hdetT_hentT (xb yb : U8) : hdetT (hentT xb yb) = (xb, yb) := (hdetT_eq_iff _ xb yb).2 rfl

/-- Below its top byte the probe of a byte pair decodes to the probe bit, turned by the byte's codes. -/
theorem bitDetangleTo_probeTangle (xb yb : U8) :
    bitDetangleTo 24 (probeTangle xb yb) =
      turn 24 (turnsOf 8 (probeTangle xb yb >>> (2 * 24))) (0#32, 0x800000#32) := by
  have hcut := bitDetangleTo_add 24 8 (probeTangle xb yb)
  have hcell : bitDetangleTo (24 + 8) (probeTangle xb yb) = (atByte xb 3, atByte yb 3 + 0x800000#32) :=
    bitDetangle_bitEntangle _ _
  have htop : chunkOf (probeTangle xb yb >>> (2 * 24)) 0 = hentT xb yb := chunkOf_zero_shift _ 3
  rw [hcell, ← widePair_hdetT, htop, hdetT_hentT] at hcut
  obtain ⟨hx, hy⟩ := Prod.mk.inj hcut
  have hlow : turn 24 (turnsOf 8 (probeTangle xb yb >>> (2 * 24))) (bitDetangleTo 24 (probeTangle xb yb)) =
      (0#32, 0x800000#32) :=
    Prod.ext (left_eq_add.1 hx) (add_left_cancel hy).symm
  rw [← hlow, turn_self_turn]

/-- `HROT_T` holds the rotation code of the turn of the eight codes of `HENT_T` (42_hilbert.md R153,
R155). -/
theorem hrotT_of_chunk {t : U64} {xb yb : U8} (h : chunkOf t 0 = hentT xb yb) :
    rotTurn (hrotT xb yb) = turnsOf 8 t ∧ hrotT xb yb ∈ [4#4, 14#4, 12#4, 6#4] := by
  have hcode : hrotT xb yb =
      (bitEntangleFrom 24 (bitDetangleTo 24 (probeTangle xb yb)).1
        (bitDetangleTo 24 (probeTangle xb yb)).2).extractLsb' 44 4 := by
    apply BitVec.eq_of_getLsbD_eq
    intro i hi
    have hbit := getLsbD_bitEntangleFrom_bitDetangleTo (k := 24) (i := 44 + i) (probeTangle xb yb)
      (by omega) (by omega)
    simp only [hrotT, BitVec.getLsbD_extractLsb', hbit]
  have htop : chunkOf (probeTangle xb yb >>> (2 * 24)) 0 = chunkOf t 0 :=
    (chunkOf_zero_shift _ 3).trans h.symm
  rw [hcode, bitDetangleTo_probeTangle, turnsOf_congr (getLsbD_eq_of_chunkOf_zero_eq htop)]
  exact probe_codes_of_turn _

/-! ### The walk of H.DET computes the reference -/

theorem hDetangleTo_eq_bitDetangleTo (d : Nat) (t : U64) :
    hDetangleTo glcoreTables d t = bitDetangleTo (8 * d) t := by
  induction d with
  | zero => rfl
  | succ d ih =>
    let b := hdetT (chunkOf t d)
    have hchunk : chunkOf (t >>> (2 * (8 * d))) 0 = chunkOf t d := chunkOf_zero_shift t d
    have hb : hentT b.1 b.2 = chunkOf t d := (hdetT_eq_iff _ _ _).1 rfl
    have hturn : rotTurn (hrotT b.1 b.2) = turnsOf 8 (t >>> (2 * (8 * d))) :=
      (hrotT_of_chunk (hchunk.trans hb.symm)).1
    have hwide : widePair b = bitDetangleTo 8 (t >>> (2 * (8 * d))) := by
      rw [← widePair_hdetT, hchunk]
    calc hDetangleTo glcoreTables (d + 1) t
      _ = joinPair (8 * d) (widePair b) (turn (8 * d) (rotTurn (hrotT b.1 b.2)) (hDetangleTo glcoreTables d t)) :=
        Prod.ext (add_comm _ _) (add_comm _ _)
      _ = bitDetangleTo (8 * (d + 1)) t := by
        rw [hwide, hturn, ih, ← bitDetangleTo_add, Nat.mul_succ]

theorem hDetangle_eq_bitDetangle (t : U64) : hDetangle glcoreTables t = bitDetangle t :=
  hDetangleTo_eq_bitDetangleTo 4 t

/-- The two entangles have the same inverse. -/
theorem hEntangle_eq_bitEntangle (x y : U32) : hEntangle glcoreTables x y = bitEntangle x y := by
  have hcell : bitDetangle (hEntangle glcoreTables x y) = (x, y) := by
    rw [← hDetangle_eq_bitDetangle, hDetangle_hEntangle hdetT_hentT]
  rw [← bitEntangle_bitDetangle (hEntangle glcoreTables x y), hcell]

/-- Settles O31: the walk of H.ENT computes the reference, and both commands answer behind one check. -/
theorem hEntEqualsReference : Obligations.HEntEqualsReference := by
  intro s x y
  have hsame : exec (.hEnt x y) s = exec (.bEnt x y) s := by
    simp only [exec, execHEnt, execBEnt, hEntangle_eq_bitEntangle]
  exact ⟨hsame, fun h => hsame.trans (exec_bEnt x y h)⟩

/-- Settles O32: the walk of H.DET computes the reference, and both commands answer behind one check. -/
theorem hDetEqualsReference : Obligations.HDetEqualsReference := by
  intro s t
  have hsame : exec (.hDet t) s = exec (.bDet t) s := by
    simp only [exec, execHDet, execBDet, hDetangle_eq_bitDetangle]
  exact ⟨hsame, fun h => hsame.trans (exec_bDet t h)⟩

/-! ### The rotation codes (42_hilbert.md R153, R155) -/

/-- The walk of R155 (c) over the codes of a partial tangle gives their turn. -/
theorem flagsOfCodes_eq {n : Nat} {p : U16} {t : U64} (h : ∀ i < 2 * n, t.getLsbD i = p.getLsbD i)
    (f : Bool × Bool) : flagsOfCodes n p f = joinTurns (turnsOf n t) f := by
  induction n generalizing f with
  | zero => simp [flagsOfCodes, turnsOf, joinTurns]
  | succ n ih =>
    have hcode : t.extractLsb' (2 * n) 2 = p.extractLsb' (2 * n) 2 := by
      apply BitVec.eq_of_getLsbD_eq
      intro i hi
      simp [hi, h (2 * n + i) (by omega)]
    have hstep : (if p.extractLsb' (2 * n) 2 = 0#2 then (!f.1, f.2)
        else if p.extractLsb' (2 * n) 2 = 3#2 then (!f.1, !f.2) else f) =
        joinTurns (codeTurn (p.extractLsb' (2 * n) 2)) f := by
      unfold codeTurn joinTurns
      split
      · simp
      · split <;> simp
    rw [flagsOfCodes, hstep, ih fun i hi => h i (by omega), turnsOf, hcode]
    simp [joinTurns, Bool.xor_left_comm]

/-- Settles O30: the rotation code of a byte pair is that of the turn of its partial tangle. -/
theorem rotationCodesFromPartialTangle : Obligations.RotationCodesFromPartialTangle := by
  intro xb yb
  have hchunk : chunkOf ((hentT xb yb).setWidth 64) 0 = hentT xb yb := by
    simpa [atChunk] using chunkOf_atChunk (j := 0) (by omega) 0 (hentT xb yb)
  have hbits : ∀ i < 2 * 8, ((hentT xb yb).setWidth 64).getLsbD i = (hentT xb yb).getLsbD i := by
    intro i hi
    simp [show i < 64 by omega]
  obtain ⟨hturn, hmem⟩ := hrotT_of_chunk hchunk
  refine ⟨by simpa using hmem, ?_⟩
  rw [flagsOfCodes_eq hbits, ← hturn]
  simp [joinTurns, rotTurn]

end Sys2Proof.Machine
end

section
/-! PROOFS. The most-significant-first walk (42_hilbert.md R158) and the cached decoder (43_cached.md R180 to
R189): the same cut of the reference at other positions. -/

namespace Sys2Proof.Machine

/-! ### The most-significant-first walk (42_hilbert.md R158) -/

/-- A turn of a byte pair is a turn of it as coordinates. -/
theorem turn_widePair (f : Bool × Bool) (b : U8 × U8) :
    turn 8 f (widePair b) = widePair (swapIf f.1 (reflectIf f.2 255#8 b)) := by
  have hreflect (v : U8) : (255#8 - v).setWidth 32 = lowMask 8 - v.setWidth 32 := by
    have hle : v ≤ 255#8 := BitVec.le_def.2 (Nat.le_of_lt_succ v.isLt)
    have hv : (v.setWidth 32).toNat = v.toNat := BitVec.toNat_setWidth_of_le (by omega)
    apply BitVec.eq_of_toNat_eq
    rw [toNat_lowMask_sub (by omega) (hv ▸ v.isLt), hv, BitVec.toNat_setWidth_of_le (by omega),
      BitVec.toNat_sub_of_le hle]
    rfl
  obtain ⟨sw, fl⟩ := f
  cases sw <;> cases fl <;> simp [turn, widePair, swapIf, reflectIf, hreflect]

/-- A byte at position `d` does not carry over the bytes below it. -/
theorem atByte_or_eq_add {d : Nat} {v : U32} (hv : v.toNat < 2 ^ (8 * d)) (b : U8) :
    atByte b d ||| v = atByte b d + v := by
  symm
  apply BitVec.add_eq_or_of_and_eq_zero
  apply BitVec.eq_of_getLsbD_eq
  intro i hi
  by_cases hlow : i < 8 * d
  · simp [atByte, hlow]
  · have hclear : v.getLsbD i = false := by
      rw [← BitVec.testBit_toNat]
      exact Nat.testBit_lt_two_pow (hv.trans_le (Nat.pow_le_pow_right (by omega) (by omega)))
    simp [hclear]

/-- Fields of no bits have nothing to turn. -/
theorem turn_zero (f : Bool × Bool) : turn 0 f (0#32, 0#32) = (0#32, 0#32) := by
  revert f
  decide

/-- The running flags of the walk turn what the chunks below decode to. -/
theorem hDetangleMsf_eq_turn {d : Nat} (hd : d ≤ 4) (t : U64) (f : Bool × Bool) :
    hDetangleMsf d t f = turn (8 * d) f (hDetangleTo glcoreTables d t) := by
  induction d generalizing f with
  | zero => exact (turn_zero f).symm
  | succ d ih =>
    let b := hdetT (chunkOf t d)
    let ab := swapIf f.1 (reflectIf f.2 255#8 b)
    let c := rotTurn (hrotT b.1 b.2)
    let low := hDetangleTo glcoreTables d t
    have hfits : FitsIn (8 * d) (turn (8 * d) (joinTurns f c) low) := by
      have hlow : FitsIn (8 * d) low := by
        rw [show low = bitDetangleTo (8 * d) t from hDetangleTo_eq_bitDetangleTo d t]
        exact fitsIn_bitDetangleTo (by omega) t
      exact hlow.turn (by omega) _
    obtain ⟨hfst, hsnd⟩ := hfits
    calc hDetangleMsf (d + 1) t f
      _ = (atByte ab.1 d ||| (turn (8 * d) (joinTurns f c) low).1,
            atByte ab.2 d ||| (turn (8 * d) (joinTurns f c) low).2) := by
        rw [← ih (by omega)]
        rfl
      _ = joinPair (8 * d) (widePair ab) (turn (8 * d) (joinTurns f c) low) :=
        Prod.ext (atByte_or_eq_add hfst _) (atByte_or_eq_add hsnd _)
      _ = turn (8 * d + 8) f (joinPair (8 * d) (widePair b) (turn (8 * d) c low)) := by
        rw [turn_joinPair, turn_widePair, turn_turn]
      _ = turn (8 * (d + 1)) f (hDetangleTo glcoreTables (d + 1) t) :=
        congrArg (turn _ f) (Prod.ext (add_comm _ _) (add_comm _ _))

/-- Settles O34: with no flags set the running walk turns nothing. -/
theorem hDetMostSignificantFirst : Obligations.HDetMostSignificantFirst :=
  fun t => hDetangleMsf_eq_turn le_rfl t (false, false)

/-! ### The miss procedure over the block's tables -/

/-- Byte 0 of a coordinate cut at bit 8, and the rest of it (43_cached.md R184). -/
theorem cut_at_eight (h : U32) (b : U8) :
    byteOf (h <<< 8 + b.setWidth 32) 0 = b ∧ baseOf (h <<< 8 + b.setWidth 32) = h <<< 8 := by
  have hdisjoint : h <<< 8 &&& b.setWidth 32 = 0#32 := by
    apply BitVec.eq_of_getLsbD_eq
    intro i hi
    by_cases hlow : i < 8
    · simp [hlow]
    · simp [BitVec.getLsbD_of_ge b i (by omega)]
  have hmask (i : Nat) (hi : i < 32) : (0xFFFFFF00#32).getLsbD i = decide (8 ≤ i) := by
    revert i
    decide
  rw [BitVec.add_eq_or_of_and_eq_zero _ _ hdisjoint]
  constructor
  all_goals
    apply BitVec.eq_of_getLsbD_eq
    intro i hi
  · simp [byteOf, hi, show i < 32 by omega]
  · rw [baseOf, BitVec.getLsbD_and, hmask i hi]
    by_cases hlow : i < 8
    · simp [hlow]
    · simp [show 8 ≤ i by omega]

/-- The index above its low chunk is its prefix (10_state.md R23). -/
theorem shiftRight_eq_prefixOf (t : U64) : t >>> 16 = (prefixOf t).setWidth 64 := by
  apply BitVec.eq_of_getLsbD_eq
  intro i hi
  by_cases hlt : i < 48
  · simp [prefixOf, hi, hlt]
  · rw [BitVec.getLsbD_setWidth, BitVec.getLsbD_of_ge (prefixOf t) i (by omega), Bool.and_false,
      BitVec.getLsbD_ushiftRight, BitVec.getLsbD_of_ge t (16 + i) (by omega)]

/-- What a prefix decodes to: the 24 high bits of the coordinates (43_cached.md R184). -/
def prefixCell (hi : BitVec 48) : U32 × U32 := bitDetangleTo 24 (hi.setWidth 64)

/-- How a prefix turns the byte pair below it (43_cached.md R185). -/
def prefixTurn (hi : BitVec 48) : Bool × Bool := turnsOf 24 (hi.setWidth 64)

/-- The state with the cache registers of a prefix. -/
def State.refill (s : State) (hi : BitVec 48) : State :=
  s.setCache hi ((prefixCell hi).1 <<< 8) ((prefixCell hi).2 <<< 8) (prefixTurn hi).1 (prefixTurn hi).2

/-- An index decodes to the cell of its prefix over the byte pair of its low chunk, turned as the prefix
says (43_cached.md R187). -/
theorem bitDetangle_eq_joinPair (t : U64) :
    bitDetangle t = joinPair 8 (prefixCell (prefixOf t))
      (widePair (swapIf (prefixTurn (prefixOf t)).1
        (reflectIf (prefixTurn (prefixOf t)).2 255#8 (hdetT (chunkOf t 0))))) := by
  rw [← turn_widePair, widePair_hdetT, prefixCell, prefixTurn, ← shiftRight_eq_prefixOf]
  exact bitDetangleTo_add 8 24 t

/-- The four turns of the sentinel's byte pair are the four patterns (43_cached.md R185). -/
theorem classify_turned_sentinel (f : Bool × Bool) :
    classify (swapIf f.1 (reflectIf f.2 255#8 (0x0F#8, 0x00#8))).1
      (swapIf f.1 (reflectIf f.2 255#8 (0x0F#8, 0x00#8))).2 = some f := by
  revert f
  decide

/-- With the block's tables every prefix classifies (43_cached.md R189). -/
theorem missProc_glcoreTables (hi : BitVec 48) (s : State) :
    missProc glcoreTables hi s = .ok (s.refill hi) := by
  have hprefix : prefixOf (sentinelOf hi) = hi := BitVec.extractLsb'_append_eq_left
  have hlow : chunkOf (sentinelOf hi) 0 = 0x00FF#16 := BitVec.extractLsb'_append_eq_right
  have hcut := bitDetangle_eq_joinPair (sentinelOf hi)
  rw [hprefix, hlow, hdetT_sentinel] at hcut
  have hpattern := classify_turned_sentinel (prefixTurn hi)
  generalize hb : swapIf (prefixTurn hi).1 (reflectIf (prefixTurn hi).2 255#8 (0x0F#8, 0x00#8)) = b at *
  obtain ⟨hx, hbx⟩ := cut_at_eight (prefixCell hi).1 b.1
  obtain ⟨hy, hby⟩ := cut_at_eight (prefixCell hi).2 b.2
  rw [missProc_of_classify (sw := (prefixTurn hi).1) (fl := (prefixTurn hi).2) s ((hDetangle_eq_bitDetangle _).trans hcut)
    (by simpa only [widePair, hx, hy] using hpattern)]
  simp only [widePair, hbx, hby, State.refill]

/-- The cache registers of an index's prefix give the index's cell (43_cached.md R187). -/
theorem applyCache_refill (t : U64) (s : State) :
    applyCache glcoreTables (chunkOf t 0) (s.refill (prefixOf t)) = bitDetangle t :=
  (bitDetangle_eq_joinPair t).symm

/-- The cache invariant in terms of the refill (10_state.md R26). -/
theorem State.cacheOk_iff (s : State) : s.cacheOk ↔ (s.faulted = false → s.refill s.cHi = s) := by
  simp only [State.cacheOk, missProc_glcoreTables, Except.ok.injEq]

/-- C.DET over a cache that belongs to its prefix leaves the cache of the new prefix and answers the
reference; on a hit the two caches are one (43_cached.md R180). -/
theorem cDetangle_of_cacheOk {s : State} (t : U64) (h : s.refill s.cHi = s) :
    cDetangle glcoreTables t s =
      .next ((s.refill (prefixOf t)).answer .ok (packPair (bitDetangle t))) := by
  by_cases hp : prefixOf t = s.cHi
  · rw [cDetangle_of_hit hp, hp, h, ← applyCache_refill t s, hp, h, respond]
  · rw [cDetangle_of_refill hp (missProc_glcoreTables _ s), applyCache_refill, respond]

/-- C.DET with `FAULTED = 0` and the cache invariant. -/
theorem exec_cDet_of_cacheOk {s : State} (t : U64) (hfaulted : s.faulted = false) (hcache : s.cacheOk) :
    exec (.cDet t) s = .next ((s.refill (prefixOf t)).answer .ok (packPair (bitDetangle t))) :=
  unlessFaulted_next.2
    (.inr ⟨hfaulted, cDetangle_of_cacheOk t (s.cacheOk_iff.1 hcache hfaulted)⟩)

/-- Settles O36: both commands answer the reference, and what C.DET leaves is the refill for the prefix. -/
theorem cDetEqualsHDet : Obligations.CDetEqualsHDet := by
  intro s t hfaulted hcache
  have hhdet : exec (.hDet t) s = .next (s.answer .ok (packPair (bitDetangle t))) :=
    (hDetEqualsReference s t).2 hfaulted
  exact ⟨s.refill (prefixOf t), packPair (bitDetangle t), hhdet, exec_cDet_of_cacheOk t hfaulted hcache,
    missProc_glcoreTables _ s, rfl, rfl, fun _ => missProc_glcoreTables _ _⟩

/-- Settles O40: the miss procedure always refills, so the one update that sets `FAULTED` never comes. -/
theorem fatalConditionDead : Obligations.FatalConditionDead := by
  refine ⟨fun hi s => ⟨_, missProc_glcoreTables hi s⟩, fun s t i hfaulted hexec => ?_⟩
  have hwritten : Written s t := by
    by_cases hi : ∃ tg, i = .cDet tg
    · obtain ⟨tg, rfl⟩ := hi
      have hrun : cDetangle glcoreTables tg s = .next t := by
        simpa [exec, execCDet, unlessFaulted, hfaulted] using hexec
      obtain hwritten | ⟨-, info, herror, -⟩ := cDetangle_written_or_fatal hrun
      · exact hwritten
      · rw [missProc_glcoreTables] at herror
        contradiction
    · exact exec_writesOnly (.inr (not_exists.1 hi)) t hexec
  obtain ⟨hkeeps, hfinfo, -⟩ := hwritten.keeps
  exact ⟨hkeeps.trans hfaulted, hfinfo⟩

/-! ### A hit over given cache registers -/

theorem eq_shiftLeft_of_byteOf_zero {v : U32} (h : byteOf v 0 = 0#8) : v = (v >>> 8) <<< 8 := by
  apply BitVec.eq_of_getLsbD_eq
  intro i hi
  by_cases hlow : i < 8
  · simpa [byteOf, hlow] using congrArg (BitVec.getLsbD · i) h
  · simp [hlow, hi, show 8 + (i - 8) = i by omega]

/-- A byte added to a base with a clear low byte (43_cached.md R187). -/
theorem base_add_byte {v : U32} (h : byteOf v 0 = 0#8) (b : U8) :
    byteOf (v + b.setWidth 32) 0 = b ∧ baseOf (v + b.setWidth 32) = v := by
  rw [eq_shiftLeft_of_byteOf_zero h]
  exact cut_at_eight _ b

/-- Settles O37: on a hit the answer is made of the registers as they stand, and the bytes do not carry
into the bases. -/
theorem cDetHitAppliesCache : Obligations.CDetHitAppliesCache := by
  intro s t hfaulted hhit ⟨hbx, hby⟩
  let b := swapIf s.cSwap (reflectIf s.cFlip 255#8 (hdetT (chunkOf t 0)))
  obtain ⟨hx, hxbase⟩ := base_add_byte hbx b.1
  obtain ⟨hy, hybase⟩ := base_add_byte hby b.2
  refine ⟨s.cBx + b.1.setWidth 32, s.cBy + b.2.setWidth 32,
    unlessFaulted_next.2 (.inr ⟨hfaulted, cDetangle_of_hit hhit⟩), hxbase, hybase, fun xb yb hent => ?_⟩
  have hraw : hdetT (chunkOf t 0) = (xb, yb) := (hdetT_eq_iff _ _ _).2 hent
  rw [hx, hy]
  simp only [b, hraw]
  cases s.cFlip <;> cases s.cSwap <;> rfl

end Sys2Proof.Machine
end

section
/-! PROOFS. The block's invariant (10_state.md R24, R26, R30, R36): each named update keeps it where the
commands make it, so every command and every step does. -/

namespace Sys2Proof.Machine

/-! ### The parts of the invariant -/

/-- The cache invariant looks at `FAULTED` and the cache registers only. -/
theorem State.cacheOk_congr {s t : State} (h : s.cacheOk) (hregs : t.withCacheOf s = t)
    (hfaulted : t.faulted = s.faulted) : t.cacheOk := by
  rw [State.cacheOk_iff] at h ⊢
  intro ht
  have hhi : s.cHi = t.cHi := (congrArg State.cHi hregs :)
  calc t.refill t.cHi
    _ = t.withCacheOf (s.refill s.cHi) := by
      rw [hhi]
      rfl
    _ = t := by rw [h (hfaulted ▸ ht), hregs]

/-- A state with the cache registers and the `FAULTED` of one with the invariant. -/
theorem State.Inv.of_cache_eq {s t : State} (h : s.Inv) (hlens : t.lensOk) (hdec : t.decompressorOk)
    (hregs : t.withCacheOf s = t := by rfl) (hfaulted : t.faulted = s.faulted := by rfl) : t.Inv := by
  obtain ⟨hcache, ⟨hbx, hby⟩, -, -⟩ := h
  refine ⟨State.cacheOk_congr hcache hregs hfaulted, ?_, hlens, hdec⟩
  rw [← hregs]
  exact ⟨hbx, hby⟩

theorem State.lensOk.len_le {s : State} (h : s.lensOk) (st : Stream) : s.mem.len st ≤ 2 ^ 32 := by
  obtain ⟨hcaps, hwf⟩ := h
  have hlen := (Memory.wf_iff _ _).1 hwf st
  simp only [Caps.ok, capOk, Bool.and_eq_true, decide_eq_true_eq] at hcaps
  cases st <;> simp only [Caps.get] at hlen <;> omega

/-- The decompressor's cursors, stream by stream (10_state.md R36). -/
theorem State.decompressorOk_iff (s : State) :
    s.decompressorOk ↔
      (s.dAct = true → s.phase = .sealed ∧ ∀ st, (s.cursor st).toNat ≤ s.mem.len st) := by
  refine imp_congr_right fun _ => and_congr_right fun _ => ⟨fun ⟨h0, h1, h2, h3, h4⟩ st => ?_, fun h =>
    ⟨h .tag, h .disc, h .o16, h .o32, h .o64⟩⟩
  cases st
  all_goals assumption

/-! ### The updates -/

section
variable {s : State}

theorem State.Inv.answer (h : s.Inv) (st : Status) (d : U64) : (s.answer st d).Inv := by
  obtain ⟨-, -, hlens, hdec⟩ := id h
  exact h.of_cache_eq hlens hdec

theorem State.Inv.newCompressor (h : s.Inv) : s.newCompressor.Inv := by
  obtain ⟨-, -, ⟨hcaps, -⟩, -⟩ := id h
  exact h.of_cache_eq ⟨hcaps, Memory.empty_wf _⟩ nofun

theorem State.Inv.setKCur (h : s.Inv) (v : U64) : (s.setKCur v).Inv := by
  obtain ⟨-, -, hlens, hdec⟩ := id h
  exact h.of_cache_eq hlens hdec

/-- An append in phase OPEN, where no decompressor is active (10_state.md R36). -/
theorem State.Inv.append (h : s.Inv) (hphase : s.phase = .opened) {st : Stream}
    (hroom : s.isFull st = false) (v : U64) : (s.append st v).Inv := by
  obtain ⟨-, -, ⟨hcaps, hwf⟩, hdec⟩ := id h
  refine h.of_cache_eq ⟨hcaps, Memory.append_wf _ _ _ _ hwf ((s.isFull_eq_false_iff st).1 hroom)⟩
    fun hact => ?_
  have hsealed := (hdec hact).1
  rw [hphase] at hsealed
  contradiction

theorem State.Inv.sealPhase (h : s.Inv) : s.sealPhase.Inv := by
  obtain ⟨-, -, hlens, hdec⟩ := id h
  exact h.of_cache_eq hlens fun hact => ⟨rfl, (hdec hact).2⟩

theorem State.Inv.startDecompressor (h : s.Inv) (hphase : s.phase = .sealed) :
    s.startDecompressor.Inv := by
  obtain ⟨-, -, hlens, -⟩ := id h
  refine h.of_cache_eq hlens ((State.decompressorOk_iff _).2 fun _ => ⟨hphase, fun st => ?_⟩)
  have hzero : s.startDecompressor.cursor st = 0#33 := by cases st <;> rfl
  simp [hzero]

theorem State.Inv.endDecompressor (h : s.Inv) : s.endDecompressor.Inv := by
  obtain ⟨-, -, hlens, -⟩ := id h
  exact h.of_cache_eq hlens nofun

theorem State.Inv.addDelta (h : s.Inv) (d : U64) : (s.addDelta d).Inv := by
  obtain ⟨-, -, hlens, hdec⟩ := id h
  exact h.of_cache_eq hlens hdec

/-- A cursor that reads an element stands before the end of its stream. -/
theorem State.cursor_lt_of_read {st : Stream} {v : U64} (hread : s.readAtCursor st = some v) :
    (s.cursor st).toNat < s.mem.len st := by
  by_contra hge
  simp [State.readAtCursor, (Memory.read_eq_none_iff _ _ _).2 (not_lt.1 hge)] at hread

/-- Within the bounds of the streams a cursor does not wrap. -/
theorem State.toNat_cursor_succ {st : Stream} {v : U64} (hlen : s.mem.len st ≤ 2 ^ 32)
    (hread : s.readAtCursor st = some v) : (s.cursor st + 1#33).toNat = (s.cursor st).toNat + 1 := by
  have hlt := State.cursor_lt_of_read hread
  rw [BitVec.toNat_add_of_lt (by simp; omega)]
  rfl

/-- A cursor that has read an element goes on without passing the end of its stream. -/
theorem State.Inv.advance (h : s.Inv) {st : Stream} {v : U64} (hread : s.readAtCursor st = some v) :
    (s.advance st).Inv := by
  obtain ⟨-, -, hlens, hdec⟩ := id h
  have hlt := State.cursor_lt_of_read hread
  have hsucc := State.toNat_cursor_succ (hlens.len_le st) hread
  refine h.of_cache_eq (by simpa [State.lensOk] using hlens) ((State.decompressorOk_iff _).2 ?_)
    (by cases st <;> rfl) (by simp)
  intro hact
  obtain ⟨hphase, hcursors⟩ := (State.decompressorOk_iff s).1 hdec (by simpa using hact)
  refine ⟨by simpa using hphase, fun st' => ?_⟩
  rw [State.advance_cursor, State.advance_mem]
  split
  · subst st'
    omega
  · exact hcursors st'

/-- The refill belongs to its prefix, and its bases have a clear low byte (43_cached.md R184). -/
theorem State.Inv.refill (h : s.Inv) (hi : BitVec 48) : (s.refill hi).Inv := by
  obtain ⟨-, -, hlens, hdec⟩ := id h
  have hclear (v : U32) : byteOf (v <<< 8) 0 = 0#8 := by
    simpa using (cut_at_eight v 0#8).1
  exact ⟨fun _ => missProc_glcoreTables hi _, ⟨hclear _, hclear _⟩, hlens, hdec⟩

/-- The all-zero cache is the refill for prefix 0 (43_cached.md R190). -/
theorem State.refill_zero (s : State) : s.refill 0#48 = s.setCache 0#48 0#32 0#32 false false :=
  Except.ok.inj ((missProc_glcoreTables 0#48 s).symm.trans (resetCacheIsPrefixZero.2 s))

theorem State.inv_afterReset (hcaps : s.caps.ok = true) : s.afterReset.Inv := by
  have hcache : s.afterReset.refill 0#48 = s.afterReset := s.afterReset.refill_zero
  exact ⟨s.afterReset.cacheOk_iff.2 fun _ => hcache, ⟨rfl, rfl⟩, ⟨hcaps, Memory.empty_wf _⟩, nofun⟩

end

/-! ### The commands -/

/-- Every next state the outcome `o` can be has the invariant. -/
def GivesInv (o : Result) : Prop := ∀ t, o = .next t → t.Inv

section
variable {s : State} {run : Result}

theorem givesInv_respond {st : Status} {d : U64} (h : s.Inv) : GivesInv (respond st d s) := by
  intro t ht
  rw [← respond_next.1 ht]
  exact h.answer st d

/-- A check that refuses with one answer, or lets a command run that keeps the invariant there. -/
theorem State.Inv.givesInv_of_check {o : Result} {refused passed : Prop} {st : Status} {d : U64}
    (h : s.Inv) (hrun : passed → GivesInv run)
    (hcheck : ∀ t, o = .next t ↔ (refused ∧ s.answer st d = t) ∨ (passed ∧ run = .next t)) :
    GivesInv o := by
  intro t ht
  obtain ⟨-, rfl⟩ | ⟨hpassed, hnext⟩ := (hcheck t).1 ht
  · exact h.answer st d
  · exact hrun hpassed t hnext

theorem State.Inv.unlessFaulted (h : s.Inv) (hrun : s.faulted = false → GivesInv run) :
    GivesInv (unlessFaulted run s) :=
  h.givesInv_of_check hrun fun _ => unlessFaulted_next

theorem State.Inv.ifOpen (h : s.Inv) (hrun : s.phase = .opened → GivesInv run) :
    GivesInv (ifOpen run s) :=
  h.givesInv_of_check hrun fun _ => ifOpen_next

theorem State.Inv.ifSealed (h : s.Inv) (hrun : s.phase = .sealed → GivesInv run) :
    GivesInv (ifSealed run s) :=
  h.givesInv_of_check hrun fun _ => ifSealed_next

theorem State.Inv.ifActive (h : s.Inv) (hrun : GivesInv run) : GivesInv (ifActive run s) :=
  h.givesInv_of_check (fun _ => hrun) fun _ => ifActive_next

/-- An overflow stream is neither `TAG` nor `DISC` (44_compressor.md R201). -/
theorem Tier.ne_of_overflow {k : Tier} {w : U64} {st : Stream} (h : k.overflow = some (w, st)) :
    st ≠ .tag ∧ st ≠ .disc := by
  cases k <;> cases h <;> decide

theorem ne_of_overflowOf {w : U64} {st : Stream} (h : overflowOf w = some st) :
    st ≠ .tag ∧ st ≠ .disc := by
  unfold overflowOf at h
  split_ifs at h <;> cases h <;> decide

/-- An append to one stream leaves the room of the others. -/
theorem State.isFull_append_of_ne (s : State) {st st' : Stream} (v : U64) (hne : st' ≠ st) :
    (s.append st v).isFull st' = s.isFull st' := by
  simp [State.isFull, hne]

theorem State.Inv.pushDelta (h : s.Inv) (hphase : s.phase = .opened) (v : U64) :
    GivesInv (pushDelta v s) := by
  intro t ht
  obtain rfl | ⟨-, htag, rfl⟩ | ⟨w, st, htier, htag, hdisc, hst, rfl⟩ := pushDelta_next ht
  · exact h.answer _ _
  · exact ((h.append hphase htag _).setKCur v).answer _ _
  · obtain ⟨hne, hne'⟩ := Tier.ne_of_overflow htier
    have htagged := h.append hphase htag 0#64
    have hpaired := htagged.append hphase (st := .disc)
      ((s.isFull_append_of_ne _ (by decide)).trans hdisc) w
    have hroom : ((s.append .tag 0#64).append .disc w).isFull st = false := by
      rw [State.isFull_append_of_ne _ _ hne', State.isFull_append_of_ne _ _ hne, hst]
    have hstored := hpaired.append hphase hroom (v - s.kCur)
    exact (hstored.setKCur v).answer _ _

/-- Moving one cursor on leaves what the others find. -/
theorem State.readAtCursor_advance_of_ne (s : State) {st st' : Stream} (hne : st' ≠ st) :
    (s.advance st).readAtCursor st' = s.readAtCursor st' := by
  simp [State.readAtCursor, hne]

theorem State.Inv.nextValue (h : s.Inv) : GivesInv (nextValue s) := by
  intro t ht
  obtain ⟨-, rfl⟩ | ⟨tag, htag, -, rfl⟩ | ⟨w, st, delta, htag, hdisc, hstream, hdelta, rfl⟩ | ⟨-, rfl⟩ :=
    nextValue_next ht
  · exact h.answer _ _
  · exact ((h.addDelta tag).advance (st := .tag) htag).answer _ _
  · obtain ⟨hne, hne'⟩ := ne_of_overflowOf hstream
    have htagged := (h.addDelta delta).advance (st := .tag) htag
    have hpaired := htagged.advance (st := .disc)
      ((State.readAtCursor_advance_of_ne (s.addDelta delta) (by decide)).trans hdisc)
    have hread : (((s.addDelta delta).advance .tag).advance .disc).readAtCursor st = some delta := by
      rw [State.readAtCursor_advance_of_ne _ hne', State.readAtCursor_advance_of_ne _ hne]
      exact hdelta
    exact (hpaired.advance hread).answer _ _
  · exact h.endDecompressor.answer _ _

theorem State.Inv.loadElement (h : s.Inv) (st : Stream) (idx : U32) :
    GivesInv (loadElement st idx s) := by
  intro t ht
  obtain ⟨-, rfl⟩ | ⟨v, -, rfl⟩ := loadElement_next ht <;> exact h.answer _ _

theorem State.Inv.appendElement (h : s.Inv) (hphase : s.phase = .opened) (st : Stream) (v : U64) :
    GivesInv (appendElement st v s) := by
  intro t ht
  obtain ⟨-, rfl⟩ | ⟨hroom, rfl⟩ := appendElement_next ht
  · exact h.answer _ _
  · exact (h.append hphase hroom v).answer _ _

theorem State.Inv.execSRd (h : s.Inv) (n : U8) : GivesInv (execSRd n s) := by
  intro t ht
  obtain ⟨-, rfl⟩ | ⟨v, -, rfl⟩ := execSRd_next ht <;> exact h.answer _ _

/-- Every command keeps the invariant. -/
theorem State.Inv.exec (h : s.Inv) (i : Instr) : GivesInv (exec i s) := by
  cases i with
  | zEnt | zDet | hEnt | hDet | bEnt | bDet => exact h.unlessFaulted fun _ => givesInv_respond h
  | cNew =>
    have hzero := s.refill_zero ▸ h.refill 0#48
    exact h.unlessFaulted fun _ => givesInv_respond hzero
  | cDet tg =>
    refine h.unlessFaulted fun hfaulted => ?_
    rw [cDetangle_of_cacheOk tg (s.cacheOk_iff.1 h.1 hfaulted)]
    exact givesInv_respond (h.refill _)
  | kNew | kCap => exact h.unlessFaulted fun _ => givesInv_respond h.newCompressor
  | kPush v => exact h.unlessFaulted fun _ => h.ifOpen fun hphase => h.pushDelta hphase v
  | kDone => exact h.unlessFaulted fun _ => h.ifOpen fun _ => givesInv_respond h.sealPhase
  | dStart =>
    exact h.unlessFaulted fun _ => h.ifSealed fun hphase => givesInv_respond (h.startDecompressor hphase)
  | dNext => exact h.unlessFaulted fun _ => h.ifActive h.nextValue
  | dHint => exact h.unlessFaulted fun _ => h.ifActive (givesInv_respond h)
  | sLdTag idx | sLdDisc idx | sLdO16 idx | sLdO32 idx | sLdO64 idx =>
    exact h.unlessFaulted fun _ => h.loadElement _ idx
  | sLenTag | sLenDisc | sLenO16 | sLenO32 | sLenO64 =>
    exact h.unlessFaulted fun _ => givesInv_respond h
  | sAppTag | sAppDisc | sAppO16 | sAppO32 | sAppO64 =>
    exact h.unlessFaulted fun _ => h.ifOpen fun hphase => h.appendElement hphase _ _
  | sRd n => exact h.execSRd n

end

/-! ### The step -/

/-- The invariant does not look at the command channel. -/
theorem State.Inv.withInputs {s : State} (h : s.Inv) (rest : List Input) :
    ({ s with inputs := rest } : State).Inv := by
  obtain ⟨-, -, hlens, hdec⟩ := id h
  exact h.of_cache_eq hlens hdec

theorem State.Inv.runWord {s : State} (h : s.Inv) (cmd : CommandWord) : GivesInv (s.runWord cmd) := by
  unfold State.runWord
  split
  · exact h.exec _
  · exact givesInv_respond h

theorem State.runWord_next_caps {s t : State} {cmd : CommandWord} (h : s.runWord cmd = .next t) :
    t.caps = s.caps := by
  unfold State.runWord at h
  split at h
  · exact exec_next_caps h
  · rw [← respond_next.1 h, State.answer_caps]

/-- What a step does with the next event (00_scope.md R8). -/
theorem step_next {s t : State} (h : step s = .next t) :
    t = s ∨ ∃ rest, t = State.afterReset { s with inputs := rest } ∨
      ∃ cmd, State.runWord { s with inputs := rest } cmd = .next t := by
  unfold step State.idle at h
  split at h
  · exact .inl (Host.Outcome.next.inj h).symm
  · exact .inr ⟨_, .inl (Host.Outcome.next.inj h).symm⟩
  · exact .inr ⟨_, .inr ⟨_, h⟩⟩

/-- Settles O16: the idle step, the reset and the command words, each from a state with the invariant. -/
theorem stepKeepsInvariant : Obligations.StepKeepsInvariant := by
  intro s t h hstep
  obtain ⟨-, -, ⟨hcaps, -⟩, -⟩ := id h
  obtain rfl | ⟨rest, rfl | ⟨cmd, hrun⟩⟩ := step_next hstep
  · exact ⟨h, rfl⟩
  · exact ⟨State.inv_afterReset hcaps, rfl⟩
  · exact ⟨(h.withInputs rest).runWord cmd t hrun, State.runWord_next_caps (s := { s with inputs := rest }) hrun⟩

/-- Settles O15: the reset state is what reset leaves of itself, and its capacities are in range. -/
theorem invariantAtReset : Obligations.InvariantAtReset :=
  ⟨rfl, State.inv_afterReset (s := State.reset) (by decide)⟩

end Sys2Proof.Machine
end

section
/-! PROOFS. The step and the responses (00_scope.md R8, 60_exceptions.md R270, R277, R287,
70_reset_and_hazards.md R300): what a refusal leaves, what a read leaves, and what the FAULTED block does. -/

namespace Sys2Proof.Machine

/-! ### The events of a step -/

theorem State.runWord_of_decode_ok {s : State} {cmd : CommandWord} {i : Instr} (h : decode cmd = .ok i) :
    s.runWord cmd = exec i s := by
  simp [State.runWord, h]

/-- Settles O4: the head of the channel is run, and it decodes. -/
theorem stepRunsDecodedCommand : Obligations.StepRunsDecodedCommand := by
  intro s cmd rest i hinputs hd
  rw [step_of_command hinputs, State.runWord_of_decode_ok hd]

/-- Settles O6: a reset event leaves `afterReset`, field by field. -/
theorem resetEventResets : Obligations.ResetEventResets := by
  intro s rest hinputs
  exact ⟨_, step_of_reset hinputs, rfl, rfl, rfl, rfl, rfl, rfl, rfl, rfl, rfl, rfl, rfl, rfl, rfl, rfl,
    rfl, rfl, rfl, rfl, rfl, rfl, rfl⟩

/-- Settles O8: with no event the step is `idle`. -/
theorem idleStepChangesNothing : Obligations.IdleStepChangesNothing := by
  intro s hinputs
  simp only [step, hinputs, State.idle]

/-! ### Refusals (60_exceptions.md R270) -/

/-- The ways a command begun in `s` answers: with any status but BADSTREAM from `s` itself, with OK or FATAL
from what it wrote, or with BADSTREAM from `s` without its decompressor. -/
inductive CleanlyAnswered (s : State) : State → Prop
  | unwritten (st : Status) (d : U64) (hst : st ≠ .badStream) : CleanlyAnswered s (s.answer st d)
  | written (u : State) (st : Status) (d : U64) (hst : st = .ok ∨ st = .fatal)
      (hinputs : u.inputs = s.inputs) (hresponses : u.responses = s.responses) :
      CleanlyAnswered s (u.answer st d)
  | badStream : CleanlyAnswered s (s.endDecompressor.answer .badStream 0#64)

/-- In terms of the response word: one is added, and its status says what else may have changed. -/
theorem CleanlyAnswered.exists_response {s t : State} (h : CleanlyAnswered s t) :
    ∃ r, t.responses = s.responses ++ [r] ∧ (rspStatus r).toNat ≤ 7 ∧
      ((rspStatus r).toNat ∈ [1, 2, 3, 4, 5] → t = { s with responses := s.responses ++ [r] }) ∧
      (rspStatus r = 6#4 → t = { s with responses := s.responses ++ [r], dAct := false }) := by
  cases h with
  | unwritten st d hst =>
    refine ⟨responseWord st d, rfl, by simpa using st.code_toNat_le, fun _ => rfl, fun hbad => ?_⟩
    rw [rspStatus_responseWord] at hbad
    cases st <;> simp [Status.code] at hbad hst
  | written u st d hst hinputs hresponses =>
    refine ⟨responseWord st d, by simp [hresponses], by simpa using st.code_toNat_le, ?_, ?_⟩
    all_goals
      rw [rspStatus_responseWord]
      obtain rfl | rfl := hst <;> simp [Status.code]
  | badStream =>
    refine ⟨responseWord .badStream 0#64, rfl, by simpa using Status.badStream.code_toNat_le, ?_,
      fun _ => rfl⟩
    simp [Status.code]

/-- Every next state the outcome `o`, begun in `s`, can be was cleanly answered. -/
def AnswersCleanly (s : State) (o : Result) : Prop := ∀ t, o = .next t → CleanlyAnswered s t

theorem answersCleanly_respond_ok {s u : State} {d : U64} (hinputs : u.inputs = s.inputs := by simp)
    (hresponses : u.responses = s.responses := by simp) : AnswersCleanly s (respond .ok d u) := by
  intro t ht
  obtain rfl := respond_next.1 ht
  exact .written u .ok d (.inl rfl) hinputs hresponses

section
variable {s : State} {run : Result}

/-- A check that lets the command run or refuses it, writing nothing. -/
theorem AnswersCleanly.of_check {o : Result} {refused passed : Prop} {st : Status} {d : U64}
    (h : AnswersCleanly s run) (hst : st ≠ .badStream)
    (hcheck : ∀ t, o = .next t ↔ (refused ∧ s.answer st d = t) ∨ (passed ∧ run = .next t)) :
    AnswersCleanly s o := by
  intro t ht
  obtain ⟨-, rfl⟩ | ⟨-, hrun⟩ := (hcheck t).1 ht
  · exact .unwritten st d hst
  · exact h t hrun

theorem AnswersCleanly.unlessFaulted (h : AnswersCleanly s run) : AnswersCleanly s (unlessFaulted run s) :=
  h.of_check (by decide) fun _ => unlessFaulted_next

theorem AnswersCleanly.ifOpen (h : AnswersCleanly s run) : AnswersCleanly s (ifOpen run s) :=
  h.of_check (by decide) fun _ => ifOpen_next

theorem AnswersCleanly.ifSealed (h : AnswersCleanly s run) : AnswersCleanly s (ifSealed run s) :=
  h.of_check (by decide) fun _ => ifSealed_next

theorem AnswersCleanly.ifActive (h : AnswersCleanly s run) : AnswersCleanly s (ifActive run s) :=
  h.of_check (by decide) fun _ => ifActive_next

end

/-- A hit writes nothing, a refill answers OK, and the fatal condition FATAL. -/
theorem cDetangle_answersCleanly (T : Tables) (tg : U64) (s : State) :
    AnswersCleanly s (cDetangle T tg s) := by
  intro t ht
  obtain ⟨-, rfl⟩ | ⟨s', hrefill, rfl⟩ | ⟨info, -, rfl⟩ := cDetangle_next ht
  · exact .unwritten _ _ (by decide)
  · obtain ⟨bx, yy, sw, fl, hok⟩ | ⟨info, herror⟩ := missProc_cases T (prefixOf tg) s
    · obtain rfl := Except.ok.inj (hok.symm.trans hrefill)
      exact .written _ _ _ (.inl rfl) rfl rfl
    · simp [herror] at hrefill
  · exact .written _ _ _ (.inr rfl) rfl rfl

theorem pushDelta_answersCleanly (v : U64) (s : State) : AnswersCleanly s (pushDelta v s) := by
  intro t ht
  obtain rfl | ⟨-, -, rfl⟩ | ⟨w, st, -, -, -, -, rfl⟩ := pushDelta_next ht
  · exact .unwritten _ _ (by decide)
  · exact .written _ _ _ (.inl rfl) rfl rfl
  · exact .written _ _ _ (.inl rfl) rfl rfl

theorem nextValue_answersCleanly (s : State) : AnswersCleanly s (nextValue s) := by
  intro t ht
  obtain ⟨-, rfl⟩ | ⟨tag, -, -, rfl⟩ | ⟨w, st, delta, -, -, -, -, rfl⟩ | ⟨-, rfl⟩ :=
    nextValue_next ht
  · exact .unwritten _ _ (by decide)
  · exact .written _ _ _ (.inl rfl) rfl rfl
  · exact .written _ _ _ (.inl rfl) (by simp) (by simp)
  · exact .badStream

theorem loadElement_answersCleanly (st : Stream) (idx : U32) (s : State) :
    AnswersCleanly s (loadElement st idx s) := by
  intro t ht
  obtain ⟨-, rfl⟩ | ⟨v, -, rfl⟩ := loadElement_next ht <;> exact .unwritten _ _ (by decide)

theorem appendElement_answersCleanly (st : Stream) (v : U64) (s : State) :
    AnswersCleanly s (appendElement st v s) := by
  intro t ht
  obtain ⟨-, rfl⟩ | ⟨-, rfl⟩ := appendElement_next ht
  · exact .unwritten _ _ (by decide)
  · exact .written _ _ _ (.inl rfl) rfl rfl

theorem execSRd_answersCleanly (n : U8) (s : State) : AnswersCleanly s (execSRd n s) := by
  intro t ht
  obtain ⟨-, rfl⟩ | ⟨v, -, rfl⟩ := execSRd_next ht <;> exact .unwritten _ _ (by decide)

/-- Each command answers cleanly: its body does, and so does each check before it. -/
theorem exec_answersCleanly (i : Instr) (s : State) : AnswersCleanly s (exec i s) := by
  cases i with
  | zEnt | zDet | hEnt | hDet | bEnt | bDet | cNew | kNew | kCap =>
    exact .unlessFaulted answersCleanly_respond_ok
  | cDet tg => exact (cDetangle_answersCleanly _ tg s).unlessFaulted
  | kPush v => exact (pushDelta_answersCleanly v s).ifOpen.unlessFaulted
  | kDone => exact .unlessFaulted (.ifOpen answersCleanly_respond_ok)
  | dStart => exact .unlessFaulted (.ifSealed answersCleanly_respond_ok)
  | dNext => exact (nextValue_answersCleanly s).ifActive.unlessFaulted
  | dHint => exact .unlessFaulted (.ifActive answersCleanly_respond_ok)
  | sLdTag idx | sLdDisc idx | sLdO16 idx | sLdO32 idx | sLdO64 idx =>
    exact (loadElement_answersCleanly _ idx s).unlessFaulted
  | sLenTag | sLenDisc | sLenO16 | sLenO32 | sLenO64 => exact .unlessFaulted answersCleanly_respond_ok
  | sAppTag | sAppDisc | sAppO16 | sAppO32 | sAppO64 =>
    exact (appendElement_answersCleanly _ _ s).ifOpen.unlessFaulted
  | sRd n => exact execSRd_answersCleanly n s

theorem State.runWord_answersCleanly (s : State) (cmd : CommandWord) :
    AnswersCleanly s (s.runWord cmd) := by
  unfold State.runWord
  split
  · exact exec_answersCleanly _ s
  · intro t ht
    rw [← respond_next.1 ht]
    exact .unwritten _ _ (by decide)

/-- Settles O11: every word has a next state, and that is cleanly answered. -/
theorem refusedCommandChangesNothing : Obligations.RefusedCommandChangesNothing := by
  intro s cmd rest hinputs
  obtain ⟨t, -, hstep, -, -⟩ := everyCommandIsTotal s cmd rest hinputs
  have hrun := hstep
  rw [step_of_command hinputs] at hrun
  obtain ⟨r, hanswer⟩ :=
    (State.runWord_answersCleanly { s with inputs := rest } cmd t hrun).exists_response
  exact ⟨t, r, hstep, hanswer⟩

/-! ### The FAULTED block (60_exceptions.md R277) -/

/-- Settles O12: the word decodes to a command behind the `FAULTED` check, to S.RD, or to nothing. -/
theorem faultedBlockRefuses : Obligations.FaultedBlockRefuses := by
  intro s cmd rest hfaulted hinputs
  rw [step_of_command hinputs]
  refine ⟨hfaulted, fun i hd hi => ?_, fun n v hd hreg => ?_, fun e hd => ?_⟩
  · rw [State.runWord_of_decode_ok hd]
    exact exec_of_faulted (s := { s with inputs := rest }) hfaulted hi
  · rw [State.runWord_of_decode_ok hd]
    exact exec_sRd_of_some (s := { s with inputs := rest }) hreg
  · exact State.runWord_of_decode_error hd

/-! ### The reading commands (20_memory.md section 4) -/

/-- The outcome is `s` with one answer. -/
def OnlyAnswers (s : State) (o : Result) : Prop := ∃ st d, o = .next (s.answer st d)

section
variable {s : State} {run : Result}

theorem onlyAnswers_respond (st : Status) (d : U64) : OnlyAnswers s (respond st d s) := ⟨st, d, rfl⟩

theorem OnlyAnswers.unlessFaulted (h : OnlyAnswers s run) : OnlyAnswers s (unlessFaulted run s) := by
  unfold Machine.unlessFaulted
  split
  · exact onlyAnswers_respond _ _
  · exact h

theorem OnlyAnswers.ifActive (h : OnlyAnswers s run) : OnlyAnswers s (ifActive run s) := by
  unfold Machine.ifActive
  split
  · exact h
  · exact onlyAnswers_respond _ _

end

theorem loadElement_onlyAnswers (st : Stream) (idx : U32) (s : State) :
    OnlyAnswers s (loadElement st idx s) := by
  unfold loadElement
  split <;> exact onlyAnswers_respond _ _

theorem execSRd_onlyAnswers (n : U8) (s : State) : OnlyAnswers s (execSRd n s) := by
  unfold execSRd
  split <;> exact onlyAnswers_respond _ _

theorem exec_read_onlyAnswers {i : Instr} (hi : isRead i = true) (s : State) : OnlyAnswers s (exec i s) := by
  cases i with
  | zEnt | zDet | hEnt | hDet | bEnt | bDet => exact (onlyAnswers_respond _ _).unlessFaulted
  | dHint => exact (onlyAnswers_respond _ _).ifActive.unlessFaulted
  | sLdTag idx | sLdDisc idx | sLdO16 idx | sLdO32 idx | sLdO64 idx =>
    exact (loadElement_onlyAnswers _ idx s).unlessFaulted
  | sLenTag | sLenDisc | sLenO16 | sLenO32 | sLenO64 => exact (onlyAnswers_respond _ _).unlessFaulted
  | sRd n => exact execSRd_onlyAnswers n s
  | _ => cases hi

/-- Settles O17: an answer adds one response to the state. -/
theorem readsHaveNoSideEffect : Obligations.ReadsHaveNoSideEffect := by
  intro s i hi
  obtain ⟨st, d, hexec⟩ := exec_read_onlyAnswers hi s
  exact ⟨responseWord st d, hexec⟩

/-! ### Classification and the fatal condition (43_cached.md R185, R186) -/

theorem classify_eq_none {a b : U8}
    (h : (a, b) ∉ [(0x0F#8, 0x00#8), (0x00#8, 0x0F#8), (0xF0#8, 0xFF#8), (0xFF#8, 0xF0#8)]) :
    classify a b = none := by
  simp only [List.mem_cons, List.not_mem_nil, or_false, Prod.mk.injEq, not_or] at h
  obtain ⟨hnoop, hswap, hflip, hboth⟩ := h
  rw [classify, if_neg hnoop, if_neg hswap, if_neg hflip, if_neg hboth]

/-- Settles O38: the four patterns, and every other pair past the four tests. -/
theorem classificationTable : Obligations.ClassificationTable :=
  ⟨by decide, by decide, by decide, by decide, fun _ _ => classify_eq_none⟩

/-- Settles O39: the miss procedure gives the `FINFO` word, and C.DET raises it. -/
theorem fatalConditionRaised : Obligations.FatalConditionRaised := by
  intro T s t a b hmiss ha hb hpair
  subst ha hb
  have herror := missProc_error_iff (s := s) (hi := prefixOf t) |>.2 ⟨classify_eq_none hpair, rfl⟩
  exact ⟨cDetangle_of_fatal hmiss herror, rfl⟩

/-! ### Fixed words, codes and corners -/

/-- Settles O3: seven words, one of each format. -/
theorem decodeKnownWords : Obligations.DecodeKnownWords := by
  refine ⟨?_, ?_, ?_, ?_, ?_, ?_, ?_⟩ <;> decide

/-- Settles O23: the four codes, and the two bits read back. -/
theorem quadrantCodes : Obligations.QuadrantCodes :=
  ⟨rfl, rfl, rfl, rfl, fun rx ry => ⟨quadX_quadCode rx ry, quadY_quadCode rx ry⟩⟩

theorem bitDetangle_of_bitEntangle_eq {x y : U32} {t : U64} (h : bitEntangle x y = t) :
    bitDetangle t = (x, y) := by
  rw [← h, bitDetangle_bitEntangle]

/-- Settles O28: the entangles by evaluation, and each detangle from the entangle it inverts. -/
theorem bitReferenceCorners : Obligations.BitReferenceCorners := by
  have horigin : bitEntangle 0#32 0#32 = 0#64 := by decide
  have hlast : bitEntangle 0xFFFFFFFF#32 0#32 = 0xFFFFFFFFFFFFFFFF#64 := by decide
  have hfive : bitEntangle 5#32 6#32 = 0x2D#64 := by decide
  have hone : bitEntangle 1#32 0#32 = 1#64 := by decide
  have htwo : bitEntangle 1#32 1#32 = 2#64 := by decide
  have hthree : bitEntangle 0#32 1#32 = 3#64 := by decide
  exact ⟨horigin, hlast, by decide, by decide, hfive, bitDetangle_of_bitEntangle_eq horigin,
    bitDetangle_of_bitEntangle_eq hlast, bitDetangle_of_bitEntangle_eq hone,
    bitDetangle_of_bitEntangle_eq htwo, bitDetangle_of_bitEntangle_eq hthree,
    bitDetangle_of_bitEntangle_eq hfive⟩

end Sys2Proof.Machine
end

section
/-! PROOFS. Z-order bit by bit (41_zorder.md section 4), and the prefix property and the continuity of the
reference (40_bitref.md section 5). -/

namespace Sys2Proof.Machine

/-! ### Z-order (41_zorder.md section 4) -/

theorem getLsbD_chunkOf (t : U64) (j : Nat) {i : Nat} (hi : i < 16) :
    (chunkOf t j).getLsbD i = t.getLsbD (16 * j + i) := by
  simp [chunkOf, hi]

theorem getLsbD_byteOf (v : U32) (j : Nat) {i : Nat} (hi : i < 8) :
    (byteOf v j).getLsbD i = v.getLsbD (8 * j + i) := by
  simp [byteOf, hi]

/-- Z.ENT's index interleaves the coordinates, chunk by chunk. -/
theorem getLsbD_zEntangle (x y : U32) {i : Nat} (hi : i < 32) :
    (zEntangle glcoreTables x y).getLsbD (2 * i) = x.getLsbD i ∧
    (zEntangle glcoreTables x y).getLsbD (2 * i + 1) = y.getLsbD i := by
  obtain ⟨j, k, hj, hk, rfl⟩ : ∃ j k, j < 4 ∧ k < 8 ∧ i = 8 * j + k :=
    ⟨i / 8, i % 8, by omega, by omega, by omega⟩
  have hchunk : chunkOf (zEntangle glcoreTables x y) j = zentT (byteOf x j) (byteOf y j) :=
    chunkOf_zEntangle glcoreTables x y hj
  have heven : 2 * (8 * j + k) = 16 * j + 2 * k := by omega
  rw [heven, Nat.add_assoc, ← getLsbD_chunkOf _ j (by omega), ← getLsbD_chunkOf _ j (by omega), hchunk,
    ← getLsbD_byteOf x j hk, ← getLsbD_byteOf y j hk]
  exact getLsbD_zentT _ _ hk

/-- Z.DET's coordinates are the even and the odd bits, byte by byte. -/
theorem getLsbD_zDetangle (t : U64) {i : Nat} (hi : i < 32) :
    (zDetangle glcoreTables t).1.getLsbD i = t.getLsbD (2 * i) ∧
    (zDetangle glcoreTables t).2.getLsbD i = t.getLsbD (2 * i + 1) := by
  have hbits := getLsbD_zEntangle (zDetangle glcoreTables t).1 (zDetangle glcoreTables t).2 hi
  rw [zEntangle_zDetangle zentT_zdetT] at hbits
  exact ⟨hbits.1.symm, hbits.2.symm⟩

/-- Settles O19: the two commands behind the `FAULTED` check, and the walks bit by bit. -/
theorem zOrderClosedForm : Obligations.ZOrderClosedForm :=
  fun _ h => ⟨fun x y => ⟨_, exec_zEnt x y h, fun _ => getLsbD_zEntangle x y⟩,
    fun t => ⟨_, _, exec_zDet t h, fun _ => getLsbD_zDetangle t⟩⟩

/-- Settles O22: chunk `j` is one table entry, of the bytes `j`, and the bytes `j` are one, of chunk `j`. -/
theorem zOrderChunkLocality : Obligations.ZOrderChunkLocality := by
  refine fun T j hj => ⟨fun x y x' y' hx hy => ?_, fun t t' ht => ?_⟩
  · rw [chunkOf_zEntangle T x y hj, chunkOf_zEntangle T x' y' hj, hx, hy]
  · obtain ⟨hx, hy⟩ := byteOf_zDetangle T t hj
    obtain ⟨hx', hy'⟩ := byteOf_zDetangle T t' hj
    rw [hx, hy, hx', hy', ht]
    exact ⟨rfl, rfl⟩

/-! ### The prefix property (40_bitref.md R118) -/

theorem getLsbD_eq_of_shiftRight_eq {v v' : U32} {k j : Nat} (h : v >>> k = v' >>> k) (hj : k ≤ j) :
    v.getLsbD j = v'.getLsbD j := by
  simpa [Nat.add_sub_cancel' hj] using congrArg (BitVec.getLsbD · (j - k)) h

/-- Settles O26: equal bits from `k` up give equal codes from `k` up, and these are the index's bits. -/
theorem bitReferencePrefix : Obligations.BitReferencePrefix := by
  intro k x y x' y' hk hx hy
  have hcodes := (bitEntangleFrom_codes_eq_iff hk le_rfl (x, y) (x', y')).2 fun j _ hj =>
    ⟨getLsbD_eq_of_shiftRight_eq hx hj, getLsbD_eq_of_shiftRight_eq hy hj⟩
  apply BitVec.eq_of_getLsbD_eq
  intro i hi
  rw [BitVec.getLsbD_ushiftRight, BitVec.getLsbD_ushiftRight]
  by_cases hlt : 2 * k + i < 64
  · have hcode := congrArg (BitVec.getLsbD · (i % 2)) (hcodes (k + i / 2) (by omega) (by omega))
    have hpos : 2 * (k + i / 2) + i % 2 = 2 * k + i := by omega
    simpa [bitEntangle, show i % 2 ≤ 1 by omega, hpos] using hcode
  · rw [BitVec.getLsbD_of_ge _ _ (by omega), BitVec.getLsbD_of_ge _ _ (by omega)]

/-! ### Neighbouring cells -/

/-- The two values differ by 1. -/
def DifferByOne (a b : U32) : Prop := b.toNat = a.toNat + 1 ∨ a.toNat = b.toNat + 1

/-- The two cells share an edge (40_bitref.md section 5). -/
def Neighbours (p q : U32 × U32) : Prop :=
  (p.1 = q.1 ∧ DifferByOne p.2 q.2) ∨ (p.2 = q.2 ∧ DifferByOne p.1 q.1)

theorem DifferByOne.lowMask_sub {k : Nat} {a b : U32} (h : DifferByOne a b) (hk : k ≤ 32)
    (ha : a.toNat < 2 ^ k) (hb : b.toNat < 2 ^ k) : DifferByOne (lowMask k - a) (lowMask k - b) := by
  rw [DifferByOne, toNat_lowMask_sub hk ha, toNat_lowMask_sub hk hb]
  unfold DifferByOne at h
  omega

/-- A turn keeps an edge an edge. -/
theorem Neighbours.turn {k : Nat} {p q : U32 × U32} (h : Neighbours p q) (hk : k ≤ 32)
    (hp : FitsIn k p) (hq : FitsIn k q) (f : Bool × Bool) : Neighbours (turn k f p) (turn k f q) := by
  obtain ⟨hp1, hp2⟩ := hp
  obtain ⟨hq1, hq2⟩ := hq
  have hreflect : Neighbours (reflectIf f.2 (lowMask k) p) (reflectIf f.2 (lowMask k) q) := by
    unfold reflectIf
    split
    · exact h.imp (fun ⟨heq, hstep⟩ => ⟨congrArg (lowMask k - ·) heq, hstep.lowMask_sub hk hp2 hq2⟩)
        fun ⟨heq, hstep⟩ => ⟨congrArg (lowMask k - ·) heq, hstep.lowMask_sub hk hp1 hq1⟩
    · exact h
  unfold Machine.turn swapIf
  split
  · exact hreflect.symm
  · exact hreflect

theorem DifferByOne.add_atBit {k : Nat} {a b : U32} (h : DifferByOne a b) (hk : k < 32)
    (ha : a.toNat < 2 ^ k) (hb : b.toNat < 2 ^ k) (bit : Bool) :
    DifferByOne (a + atBit 32 bit k) (b + atBit 32 bit k) := by
  rw [DifferByOne, toNat_add_atBit hk ha, toNat_add_atBit hk hb]
  unfold DifferByOne at h
  omega

/-! ### One code of an index as a number -/

theorem toNat_code (t : U64) (k : Nat) : (t.extractLsb' (2 * k) 2).toNat = t.toNat / 4 ^ k % 4 := by
  rw [BitVec.extractLsb'_toNat, Nat.shiftRight_eq_div_pow, Nat.pow_mul]

theorem mod_four_pow_succ (t : U64) (k : Nat) :
    t.toNat % 4 ^ (k + 1) = t.toNat % 4 ^ k + 4 ^ k * (t.extractLsb' (2 * k) 2).toNat := by
  rw [toNat_code, Nat.pow_succ, Nat.mod_mul]

/-- Adding 1 adds 1 to the low part, or carries from its greatest value into the digit above it. -/
theorem carry_cases {N q q' a a' : Nat} (ha : a < N) (ha' : a' < N)
    (h : a' + N * q' = a + N * q + 1) :
    (q' = q ∧ a' = a + 1) ∨ (q' = q + 1 ∧ a + 1 = N ∧ a' = 0) := by
  obtain hlt | rfl | hgt := lt_trichotomy q' q
  · have hle : N * (q' + 1) ≤ N * q := Nat.mul_le_mul_left N hlt
    rw [Nat.mul_succ] at hle
    omega
  · omega
  · obtain rfl | hgt' : q' = q + 1 ∨ q + 2 ≤ q' := by omega
    · rw [Nat.mul_succ] at h
      omega
    · have hle : N * (q + 2) ≤ N * q' := Nat.mul_le_mul_left N hgt'
      rw [Nat.mul_add] at hle
      omega

/-! ### The ends of the curve -/

theorem atBit_false (k : Nat) : atBit 32 false k = 0#32 := by
  simp [atBit]

theorem bitDetangleTo_succ (k : Nat) (t : U64) :
    bitDetangleTo (k + 1) t =
      ((turn k (codeTurn (t.extractLsb' (2 * k) 2)) (bitDetangleTo k t)).1 +
          atBit 32 (quadX (t.extractLsb' (2 * k) 2)) k,
        (turn k (codeTurn (t.extractLsb' (2 * k) 2)) (bitDetangleTo k t)).2 +
          atBit 32 (quadY (t.extractLsb' (2 * k) 2)) k) := by
  rw [bitDetangleTo, bitRotate_eq_turn]

/-- The curve begins at the origin. -/
theorem bitDetangleTo_first {k : Nat} {t : U64} (h : t.toNat % 4 ^ k = 0) :
    bitDetangleTo k t = (0#32, 0#32) := by
  induction k with
  | zero => rfl
  | succ k ih =>
    rw [mod_four_pow_succ] at h
    have hcode : t.extractLsb' (2 * k) 2 = 0#2 := by
      have hpos : 0 < 4 ^ k := by positivity
      exact BitVec.eq_of_toNat_eq ((Nat.mul_eq_zero.1 (Nat.eq_zero_of_add_eq_zero_left h)).resolve_left hpos.ne')
    rw [bitDetangleTo_succ, hcode, ih (Nat.eq_zero_of_add_eq_zero_right h)]
    simp [turn, codeTurn, swapIf, reflectIf, quadX, quadY, atBit_false]

theorem lowMask_succ {k : Nat} (hk : k < 32) : lowMask k + atBit 32 true k = lowMask (k + 1) := by
  apply BitVec.eq_of_toNat_eq
  have hmask := toNat_lowMask hk.le
  have hpos := Nat.two_pow_pos k
  rw [toNat_add_atBit hk (by omega), hmask, toNat_lowMask hk, Nat.pow_succ]
  simp
  omega

/-- The greatest number of a digit more has the greatest digit over the greatest low part. -/
theorem greatest_digit {N c a : Nat} (ha : a < N) (hc : c < 4) (h : a + N * c + 1 = N * 4) :
    c = 3 ∧ a + 1 = N := by
  interval_cases c
  all_goals omega

/-- The curve ends at the far end of the x axis. -/
theorem bitDetangleTo_last {k : Nat} {t : U64} (hk : k ≤ 32) (h : t.toNat % 4 ^ k + 1 = 4 ^ k) :
    bitDetangleTo k t = (lowMask k, 0#32) := by
  induction k with
  | zero => rfl
  | succ k ih =>
    rw [mod_four_pow_succ, Nat.pow_succ] at h
    have hlow := Nat.mod_lt t.toNat (show 0 < 4 ^ k by positivity)
    obtain ⟨hdigit, hrest⟩ := greatest_digit hlow (BitVec.isLt _) h
    have hcode : t.extractLsb' (2 * k) 2 = 3#2 := BitVec.eq_of_toNat_eq hdigit
    rw [bitDetangleTo_succ, hcode, ih (by omega) hrest]
    simp [turn, codeTurn, swapIf, reflectIf, quadX, quadY, atBit_false, lowMask_succ hk]

/-! ### Continuity (40_bitref.md section 5) -/

/-- From the end of one sub-quadrant to the beginning of the next is one step across their border. -/
theorem neighbours_across_border {k : Nat} (hk : k < 32) {q q' : BitVec 2} (hq : q'.toNat = q.toNat + 1) :
    Neighbours
      ((turn k (codeTurn q) (lowMask k, 0#32)).1 + atBit 32 (quadX q) k,
        (turn k (codeTurn q) (lowMask k, 0#32)).2 + atBit 32 (quadY q) k)
      ((turn k (codeTurn q') (0#32, 0#32)).1 + atBit 32 (quadX q') k,
        (turn k (codeTurn q') (0#32, 0#32)).2 + atBit 32 (quadY q') k) := by
  have hcodes : ∀ q q' : BitVec 2, q'.toNat = q.toNat + 1 →
      (q = 0#2 ∧ q' = 1#2) ∨ (q = 1#2 ∧ q' = 2#2) ∨ (q = 2#2 ∧ q' = 3#2) := by decide
  have hborder : DifferByOne (lowMask k) (atBit 32 true k) := by
    have hpos := Nat.two_pow_pos k
    left
    rw [toNat_lowMask hk.le, toNat_atBit hk]
    simp
    omega
  obtain ⟨rfl, rfl⟩ | ⟨rfl, rfl⟩ | ⟨rfl, rfl⟩ := hcodes q q' hq
  · exact .inl ⟨by simp [turn, codeTurn, swapIf, reflectIf, quadX, atBit_false],
      by simpa [turn, codeTurn, swapIf, reflectIf, quadY, atBit_false] using hborder⟩
  · exact .inr ⟨by simp [turn, codeTurn, swapIf, reflectIf, quadY],
      by simpa [turn, codeTurn, swapIf, reflectIf, quadX, atBit_false] using hborder⟩
  · exact .inl ⟨by simp [turn, codeTurn, swapIf, reflectIf, quadX, add_comm],
      by simpa [turn, codeTurn, swapIf, reflectIf, quadY, atBit_false, DifferByOne, or_comm] using hborder⟩

/-- Consecutive low parts of indexes decode to neighbouring cells. -/
theorem neighbours_bitDetangleTo {k : Nat} {t t' : U64} (hk : k ≤ 32)
    (h : t'.toNat % 4 ^ k = t.toNat % 4 ^ k + 1) : Neighbours (bitDetangleTo k t) (bitDetangleTo k t') := by
  induction k with
  | zero =>
    rw [Nat.pow_zero, Nat.mod_one, Nat.mod_one] at h
    contradiction
  | succ k ih =>
    have hpos : 0 < 4 ^ k := by positivity
    rw [mod_four_pow_succ, mod_four_pow_succ] at h
    rw [bitDetangleTo_succ, bitDetangleTo_succ]
    obtain ⟨hcode, hlow⟩ | ⟨hcode, hlast, hfirst⟩ :=
      carry_cases (Nat.mod_lt t.toNat hpos) (Nat.mod_lt t'.toNat hpos) h
    · have hfits := fitsIn_bitDetangleTo (k := k) (by omega)
      have hturned := (ih (by omega) hlow).turn (by omega) (hfits t) (hfits t')
        (codeTurn (t.extractLsb' (2 * k) 2))
      obtain ⟨hp1, hp2⟩ := (hfits t).turn (by omega) (codeTurn (t.extractLsb' (2 * k) 2))
      obtain ⟨hq1, hq2⟩ := (hfits t').turn (by omega) (codeTurn (t.extractLsb' (2 * k) 2))
      rw [BitVec.eq_of_toNat_eq hcode]
      exact hturned.imp
        (fun ⟨heq, hstep⟩ => ⟨congrArg (· + _) heq, hstep.add_atBit hk hp2 hq2 _⟩)
        fun ⟨heq, hstep⟩ => ⟨congrArg (· + _) heq, hstep.add_atBit hk hp1 hq1 _⟩
    · rw [bitDetangleTo_last (by omega) hlast, bitDetangleTo_first hfirst]
      exact neighbours_across_border hk hcode

/-- Settles O27: an index and the next one, as their own low parts of 32 codes. -/
theorem hilbertContinuity : Obligations.HilbertContinuity := by
  intro t ht
  have hlast : t.toNat ≠ 2 ^ 64 - 1 := fun h => ht (BitVec.eq_of_toNat_eq h)
  have hsucc : (t + 1#64).toNat = t.toNat + 1 := by
    rw [BitVec.toNat_add_of_lt (by simp; omega)]
    rfl
  have hfour : (4 : Nat) ^ 32 = 2 ^ 64 := by norm_num
  exact neighbours_bitDetangleTo (k := 32) le_rfl
    (by rw [hfour, Nat.mod_eq_of_lt (t + 1#64).isLt, Nat.mod_eq_of_lt t.isLt, hsucc])

end Sys2Proof.Machine
end

section
/-! PROOFS. The codec's commands one by one (44_compressor.md R204, 45_decompressor.md R221 to R225,
46_streams_sysreg.md R241 to R243): what each answers behind its checks. -/

namespace Sys2Proof.Machine

/-! ### Behind the checks -/

section
variable {s : State} {run : Result}

theorem unlessFaulted_of_not_faulted (h : s.faulted = false) : unlessFaulted run s = run := by
  simp [unlessFaulted, h]

theorem ifOpen_of_opened (h : s.phase = .opened) : ifOpen run s = run :=
  if_pos h

theorem ifOpen_of_sealed (h : s.phase = .sealed) : ifOpen run s = .next (s.answer .phase 0#64) := by
  simp [ifOpen, h, respond]

/-- A stream at its capacity is full (60_exceptions.md R275). -/
theorem State.isFull_of_len_eq {st : Stream} (h : s.mem.len st = (s.caps.get st).toNat) :
    s.isFull st = true :=
  decide_eq_true h.ge

end

/-! ### Elements of the streams -/

/-- A non-zero element is a non-zero number (20_memory.md R66). -/
theorem zext64_ne_zero {w : Nat} (hw : w ≤ 64) {v : BitVec w} (h : v ≠ 0#w) : zext64 v ≠ 0#64 := by
  intro hzero
  apply h
  rw [← lowBits_zext64 hw v, hzero]
  simp [lowBits]

theorem zext64_64 (v : U64) : zext64 v = v := BitVec.setWidth_eq v

/-- An append of an element adds that element (46_streams_sysreg.md R243). -/
theorem Memory.append_zext64 (m : Memory) :
    (∀ v : U8, m.append .tag (zext64 v) = { m with tag := m.tag ++ [v] }) ∧
    (∀ v : BitVec 2, m.append .disc (zext64 v) = { m with disc := m.disc ++ [v] }) ∧
    (∀ v : U16, m.append .o16 (zext64 v) = { m with o16 := m.o16 ++ [v] }) ∧
    (∀ v : U32, m.append .o32 (zext64 v) = { m with o32 := m.o32 ++ [v] }) ∧
    (∀ v : U64, m.append .o64 (zext64 v) = { m with o64 := m.o64 ++ [v] }) := by
  refine ⟨?_, ?_, ?_, ?_, ?_⟩
  all_goals
    intro v
    simp [Memory.append, lowBits_zext64]

/-! ### S.LD, S.LEN and S.APP -/

section
variable {s : State}

theorem loadElement_of_read_some {st : Stream} {idx : U32} {v : U64}
    (h : s.mem.read st idx.toNat = some v) : loadElement st idx s = .next (s.answer .ok v) := by
  simp only [loadElement, h, respond]

theorem loadElement_of_len_le {st : Stream} {idx : U32} (h : s.mem.len st ≤ idx.toNat) :
    loadElement st idx s = .next (s.answer .range 0#64) := by
  simp only [loadElement, (Memory.read_eq_none_iff _ _ _).2 h, respond]

theorem appendElement_of_room {st : Stream} (h : s.mem.len st < (s.caps.get st).toNat) (v : U64) :
    appendElement st v s = .next ((s.append st v).answer .ok 0#64) := by
  simp [appendElement, (s.isFull_eq_false_iff st).2 h, respond]

theorem appendElement_of_full {st : Stream} (h : s.mem.len st = (s.caps.get st).toNat) (v : U64) :
    appendElement st v s = .next (s.answer .full 0#64) := by
  simp [appendElement, State.isFull_of_len_eq h, respond]

/-- An S.APP with `FAULTED = 0` in phase OPEN runs its body. -/
theorem unlessFaulted_ifOpen_of_opened {run : Result} (h : s.faulted = false) (hphase : s.phase = .opened) :
    unlessFaulted (ifOpen run s) s = run := by
  rw [unlessFaulted_of_not_faulted h, ifOpen_of_opened hphase]

end

/-- Settles O53: the element that the list holds at the index, or none at and beyond the length. -/
theorem sLdReadsElement : Obligations.SLdReadsElement := by
  intro s idx hfaulted
  have hruns {run : Result} : unlessFaulted run s = run := unlessFaulted_of_not_faulted hfaulted
  have hload {st : Stream} {v : U64} (h : s.mem.read st idx.toNat = some v) :
      unlessFaulted (loadElement st idx s) s = .next (s.answer .ok v) :=
    hruns.trans (loadElement_of_read_some h)
  have hrange {st : Stream} (h : s.mem.len st ≤ idx.toNat) :
      unlessFaulted (loadElement st idx s) s = .next (s.answer .range 0#64) :=
    hruns.trans (loadElement_of_len_le h)
  have hmap {w : Nat} {l : List (BitVec w)} {v : BitVec w} (h : l[idx.toNat]? = some v) :
      l[idx.toNat]?.map zext64 = some (zext64 v) := congrArg (Option.map zext64) h
  refine ⟨fun v h => hload (st := .tag) (hmap h), fun v h => hload (st := .disc) (hmap h),
    fun v h => hload (st := .o16) (hmap h), fun v h => hload (st := .o32) (hmap h), fun v h => ?_,
    hrange (st := .tag), hrange (st := .disc), hrange (st := .o16), hrange (st := .o32),
    hrange (st := .o64)⟩
  exact hload (st := .o64) ((hmap h).trans (congrArg some (zext64_64 v)))

/-- Settles O54: the five commands behind the `FAULTED` check. -/
theorem sLenReadsLength : Obligations.SLenReadsLength := by
  intro s hfaulted
  have hlen (st : Stream) : unlessFaulted (loadLength st s) s =
      .next (s.answer .ok (BitVec.ofNat 64 (s.mem.len st))) := unlessFaulted_of_not_faulted hfaulted
  exact ⟨hlen .tag, hlen .disc, hlen .o16, hlen .o32, hlen .o64⟩

/-- Settles O55: the appended number is the element itself. -/
theorem sAppAppendsElement : Obligations.SAppAppendsElement := by
  intro s hfaulted hphase
  have happend {st : Stream} (v : U64) {m : Memory} (hroom : s.mem.len st < (s.caps.get st).toNat)
      (hm : s.mem.append st v = m) : unlessFaulted (ifOpen (appendElement st v s) s) s =
        .next { s with mem := m, responses := s.responses ++ [0#4 ++ 0#64] } := by
    rw [unlessFaulted_ifOpen_of_opened hfaulted hphase, appendElement_of_room hroom, State.append, hm]
    rfl
  obtain ⟨htag, hdisc, h16, h32, h64⟩ := s.mem.append_zext64
  exact ⟨fun v hroom => happend (st := .tag) _ hroom (htag v),
    fun v hroom => happend (st := .disc) _ hroom (hdisc v),
    fun v hroom => happend (st := .o16) _ hroom (h16 v),
    fun v hroom => happend (st := .o32) _ hroom (h32 v),
    fun v hroom => happend (st := .o64) _ hroom (h64 v)⟩

/-- Settles O56: the phase is checked before the capacity. -/
theorem sAppRefusals : Obligations.SAppRefusals := by
  intro s hfaulted
  have hfull (st : Stream) (v : U64) (hphase : s.phase = .opened)
      (hlen : s.mem.len st = (s.caps.get st).toNat) :
      unlessFaulted (ifOpen (appendElement st v s) s) s = .next (s.answer .full 0#64) := by
    rw [unlessFaulted_ifOpen_of_opened hfaulted hphase, appendElement_of_full hlen]
  refine ⟨fun hphase i hi => ?_, fun hphase => ⟨fun hlen v => hfull .tag _ hphase hlen,
    fun hlen v => hfull .disc _ hphase hlen, fun hlen v => hfull .o16 _ hphase hlen,
    fun hlen v => hfull .o32 _ hphase hlen, fun hlen v => hfull .o64 _ hphase hlen⟩⟩
  cases i with
  | sAppTag | sAppDisc | sAppO16 | sAppO32 | sAppO64 =>
    exact (unlessFaulted_of_not_faulted hfaulted).trans (ifOpen_of_sealed hphase)
  | _ => cases hi

/-! ### K.PUSH refused -/

/-- K.PUSH in phase OPEN answers FULL when a stream its delta needs is full (44_compressor.md R204). -/
theorem pushDelta_of_full {s : State} {v : U64}
    (h : s.isFull .tag = true ∨ ∃ w st, (tierOf (v - s.kCur)).overflow = some (w, st) ∧
      (s.isFull .disc = true ∨ s.isFull st = true)) :
    pushDelta v s = .next (s.answer .full 0#64) := by
  cases htier : (tierOf (v - s.kCur)).overflow with
  | none =>
    rw [pushDelta_of_overflow_none htier]
    simp_all [respond]
  | some e =>
    rw [pushDelta_of_overflow_some htier]
    obtain htag | ⟨w, st, he, hdisc | hst⟩ := h
    · simp [htag, respond]
    · simp [hdisc, respond]
    · obtain rfl : e = (w, st) := Option.some.inj (htier.symm.trans he)
      simp [hst, respond]

theorem Tier.exists_overflow {k : Tier} (h : k ≠ .direct) : ∃ w st, k.overflow = some (w, st) := by
  cases k
  case direct => contradiction
  all_goals exact ⟨_, _, rfl⟩

/-- Settles O44: the phase check comes first; then every full stream the tier needs is found. -/
theorem kPushRefusals : Obligations.KPushRefusals := by
  intro s v hfaulted
  refine ⟨fun hphase => (unlessFaulted_of_not_faulted hfaulted).trans (ifOpen_of_sealed hphase),
    fun hphase hfull => ?_⟩
  rw [exec_kPush_of_opened v hfaulted hphase]
  apply pushDelta_of_full
  obtain htag | ⟨htier, hdisc⟩ | ⟨htier, hlen⟩ | ⟨htier, hlen⟩ | ⟨htier, hlen⟩ := hfull
  · exact .inl (State.isFull_of_len_eq htag)
  · obtain ⟨w, st, hover⟩ := Tier.exists_overflow htier
    exact .inr ⟨w, st, hover, .inl (State.isFull_of_len_eq hdisc)⟩
  all_goals exact .inr ⟨_, _, congrArg Tier.overflow htier, .inr (State.isFull_of_len_eq hlen)⟩

/-! ### D.START, D.NEXT and D.HINT -/

section
variable {s : State}

theorem exec_dStart_of_sealed (h : s.faulted = false) (hphase : s.phase = .sealed) :
    exec .dStart s = .next (s.startDecompressor.answer .ok 0#64) :=
  unlessFaulted_next.2 (.inr ⟨h, ifSealed_next.2 (.inr ⟨hphase, rfl⟩)⟩)

theorem exec_dNext_of_active (h : s.faulted = false) (hact : s.dAct = true) :
    exec .dNext s = nextValue s := by
  simp [exec, execDNext, unlessFaulted, ifActive, h, hact]

/-- A non-zero tag is the delta (45_decompressor.md R222). -/
theorem nextValue_of_direct {tag : U64} (htag : s.readAtCursor .tag = some tag) (hne : tag ≠ 0#64) :
    nextValue s = .next (((s.addDelta tag).advance .tag).answer .ok (s.dCur + tag)) := by
  simp only [nextValue, htag, if_neg hne, respond]

/-- A zero tag takes the delta from the stream that the discriminator names (45_decompressor.md R222). -/
theorem nextValue_of_overflow {w delta : U64} {st : Stream} (htag : s.readAtCursor .tag = some 0#64)
    (hdisc : s.readAtCursor .disc = some w) (hstream : overflowOf w = some st)
    (hdelta : s.readAtCursor st = some delta) :
    nextValue s =
      .next (((((s.addDelta delta).advance .tag).advance .disc).advance st).answer .ok
        (s.dCur + delta)) := by
  simp only [nextValue, htag, if_pos, nextOverflow, hdisc, hstream, hdelta, respond]

theorem nextValue_of_end (h : s.readAtCursor .tag = none) :
    nextValue s = .next (s.answer .endSeq 0#64) := by
  simp only [nextValue, h, respond]

theorem ifActive_of_inactive {run : Result} (h : s.dAct = false) :
    ifActive run s = .next (s.answer .phase 0#64) := by
  simp [ifActive, h, respond]

theorem exec_dHint_of_active (h : s.faulted = false) (hact : s.dAct = true) :
    exec .dHint s = .next (s.answer .ok (BitVec.ofNat 64 s.remaining)) :=
  unlessFaulted_next.2 (.inr ⟨h, ifActive_next.2 (.inr ⟨hact, rfl⟩)⟩)

end

/-- Settles O47: D.START behind its two checks. -/
theorem dStartFresh : Obligations.DStartFresh :=
  fun _ h => ⟨exec_dStart_of_sealed h,
    fun hphase => unlessFaulted_next.2 (.inr ⟨h, ifSealed_next.2 (.inl ⟨hphase, rfl⟩)⟩)⟩

/-- Settles O48: the tag at the cursor, extended with zeros, is not 0. -/
theorem dNextAddsDirectTag : Obligations.DNextAddsDirectTag := by
  intro s tag hfaulted hact htag hne
  rw [exec_dNext_of_active hfaulted hact,
    nextValue_of_direct (State.readAtCursor_tag htag) (zext64_ne_zero (by decide) hne)]
  rfl

/-- Settles O49: the discriminator leads to its stream, and the element there is the delta. -/
theorem dNextAddsOverflowDelta : Obligations.DNextAddsOverflowDelta := by
  intro s hfaulted hact htag
  have hnext {w : BitVec 2} {st : Stream} {delta : U64} (hdisc : s.mem.disc[s.dDp.toNat]? = some w)
      (hstream : overflowOf (zext64 w) = some st) (hdelta : s.readAtCursor st = some delta) :=
    (exec_dNext_of_active hfaulted hact).trans
      (nextValue_of_overflow (State.readAtCursor_tag htag) (State.readAtCursor_disc hdisc) hstream hdelta)
  have hmap {w n : Nat} {l : List (BitVec w)} {d : BitVec w} (h : l[n]? = some d) :
      l[n]?.map zext64 = some (zext64 d) := congrArg (Option.map zext64) h
  refine ⟨fun d hdisc hdelta => ?_, fun d hdisc hdelta => ?_, fun d hdisc hdelta => ?_⟩
  · have hread : s.readAtCursor .o16 = some (d.setWidth 64) := hmap hdelta
    rw [hnext hdisc (by decide) hread]
    simp only [State.answer, State.addDelta, State.advance, responseWord, Status.code]
  · have hread : s.readAtCursor .o32 = some (d.setWidth 64) := hmap hdelta
    rw [hnext hdisc (by decide) hread]
    simp only [State.answer, State.addDelta, State.advance, responseWord, Status.code]
  · have hread : s.readAtCursor .o64 = some d := (hmap hdelta).trans (congrArg some (zext64_64 d))
    rw [hnext hdisc (by decide) hread]
    simp only [State.answer, State.addDelta, State.advance, responseWord, Status.code]

/-- Settles O50: the cursor finds no tag and none remains; with no decompressor both are refused. -/
theorem dNextEndOfSequence : Obligations.DNextEndOfSequence := by
  intro s hfaulted
  refine ⟨fun hact hend => ⟨?_, ?_⟩, fun hact => ⟨?_, ?_⟩⟩
  · rw [exec_dNext_of_active hfaulted hact, nextValue_of_end (State.readAtCursor_eq_none hend)]
    rfl
  · have hnone : s.remaining = 0 := Nat.sub_eq_zero_of_le hend.ge
    rw [exec_dHint_of_active hfaulted hact, hnone]
    rfl
  all_goals exact (unlessFaulted_of_not_faulted hfaulted).trans (ifActive_of_inactive hact)

/-- Settles O52: below `2^32` the count is not reduced. -/
theorem dHintCountsRemaining : Obligations.DHintCountsRemaining := by
  intro s hfaulted
  refine ⟨fun hact hcursor hlen => ⟨_, exec_dHint_of_active hfaulted hact, ?_⟩,
    fun hact => (unlessFaulted_of_not_faulted hfaulted).trans (ifActive_of_inactive hact)⟩
  have hremaining : s.remaining = s.mem.tag.length - s.dTp.toNat := rfl
  rw [BitVec.toNat_ofNat, Nat.mod_eq_of_lt (by omega)]
  omega

end Sys2Proof.Machine
end

section
/-! PROOFS. The stream invariant (10_state.md R31, 44_compressor.md R207): no command but K.NEW, K.CAP, K.PUSH
and S.APP writes the streams, and K.PUSH stores one delta as its tier says. -/

namespace Sys2Proof.Machine

/-! ### What the commands make of the streams -/

/-- The streams with one delta more, stored by its tier (44_compressor.md R201, R204). -/
def Memory.store (m : Memory) (d : U64) : Memory :=
  match (tierOf d).overflow with
  | none => m.append .tag d
  | some (w, st) => ((m.append .tag 0#64).append .disc w).append st d

/-- What `tierOf` says of the delta (44_compressor.md R201). -/
theorem tierOf_cases (d : U64) :
    (tierOf d = .direct ∧ 1 ≤ d.toNat ∧ d.toNat ≤ 255) ∨
    (tierOf d = .w16 ∧ (d.toNat = 0 ∨ 256 ≤ d.toNat) ∧ d.toNat < 2 ^ 16) ∨
    (tierOf d = .w32 ∧ 2 ^ 16 ≤ d.toNat ∧ d.toNat < 2 ^ 32) ∨
    (tierOf d = .w64 ∧ 2 ^ 32 ≤ d.toNat) := by
  unfold tierOf
  split_ifs
  · exact .inl ⟨rfl, ‹_›⟩
  · exact .inr (.inl ⟨rfl, by omega, ‹_›⟩)
  · exact .inr (.inr (.inl ⟨rfl, by omega, ‹_›⟩))
  · exact .inr (.inr (.inr ⟨rfl, by omega⟩))

/-- Every next state the outcome can be has streams of the property `P`. -/
def GivesMem (P : Memory → Prop) (o : Result) : Prop := ∀ t, o = .next t → P t.mem

section
variable {P : Memory → Prop} {s : State} {run : Result}

theorem givesMem_respond {st : Status} {d : U64} (h : P s.mem) : GivesMem P (respond st d s) := by
  intro t ht
  rw [← respond_next.1 ht]
  exact h

/-- A check refuses without a look at the streams. -/
theorem GivesMem.of_check {o : Result} {refused passed : Prop} {st : Status} {d : U64}
    (hrun : GivesMem P run) (h : P s.mem)
    (hcheck : ∀ t, o = .next t ↔ (refused ∧ s.answer st d = t) ∨ (passed ∧ run = .next t)) :
    GivesMem P o := by
  intro t ht
  obtain ⟨-, rfl⟩ | ⟨-, hnext⟩ := (hcheck t).1 ht
  · exact h
  · exact hrun t hnext

theorem GivesMem.unlessFaulted (hrun : GivesMem P run) (h : P s.mem) : GivesMem P (unlessFaulted run s) :=
  hrun.of_check h fun _ => unlessFaulted_next

theorem GivesMem.ifOpen (hrun : GivesMem P run) (h : P s.mem) : GivesMem P (ifOpen run s) :=
  hrun.of_check h fun _ => ifOpen_next

theorem GivesMem.ifSealed (hrun : GivesMem P run) (h : P s.mem) : GivesMem P (ifSealed run s) :=
  hrun.of_check h fun _ => ifSealed_next

theorem GivesMem.ifActive (hrun : GivesMem P run) (h : P s.mem) : GivesMem P (ifActive run s) :=
  hrun.of_check h fun _ => ifActive_next

theorem cDetangle_givesMem (T : Tables) (tg : U64) (h : P s.mem) : GivesMem P (cDetangle T tg s) := by
  intro t ht
  have hcodec := (cDetangle_independentOf_codec T tg s s t ht).1
  rw [← hcodec]
  exact h

theorem pushDelta_givesMem (v : U64) (h : P s.mem) (hstore : P (s.mem.store (v - s.kCur))) :
    GivesMem P (pushDelta v s) := by
  intro t ht
  obtain rfl | ⟨htier, -, rfl⟩ | ⟨w, st, htier, -, -, -, rfl⟩ := pushDelta_next ht
  · exact h
  · simpa [Memory.store, htier, Tier.overflow] using hstore
  · simpa [Memory.store, htier] using hstore

theorem nextValue_givesMem (h : P s.mem) : GivesMem P (nextValue s) := by
  intro t ht
  obtain ⟨-, rfl⟩ | ⟨tag, -, -, rfl⟩ | ⟨w, st, delta, -, -, -, -, rfl⟩ | ⟨-, rfl⟩ := nextValue_next ht
  all_goals simpa using h

theorem loadElement_givesMem (st : Stream) (idx : U32) (h : P s.mem) :
    GivesMem P (loadElement st idx s) := by
  intro t ht
  obtain ⟨-, rfl⟩ | ⟨v, -, rfl⟩ := loadElement_next ht <;> exact h

theorem execSRd_givesMem (n : U8) (h : P s.mem) : GivesMem P (execSRd n s) := by
  intro t ht
  obtain ⟨-, rfl⟩ | ⟨v, -, rfl⟩ := execSRd_next ht <;> exact h

/-- Without S.APP the streams stay, are emptied, or take one delta by its tier (44_compressor.md R207). -/
theorem exec_givesMem {i : Instr} (hi : isAppend i = false) (h : P s.mem) (hempty : P Memory.empty)
    (hstore : ∀ d, P (s.mem.store d)) : GivesMem P (exec i s) := by
  cases i with
  | zEnt | zDet | hEnt | hDet | bEnt | bDet => exact (givesMem_respond h).unlessFaulted h
  | cNew => exact .unlessFaulted (givesMem_respond h) h
  | cDet tg => exact (cDetangle_givesMem _ tg h).unlessFaulted h
  | kNew | kCap => exact .unlessFaulted (givesMem_respond hempty) h
  | kPush v => exact ((pushDelta_givesMem v h (hstore _)).ifOpen h).unlessFaulted h
  | kDone => exact .unlessFaulted (.ifOpen (givesMem_respond h) h) h
  | dStart => exact .unlessFaulted (.ifSealed (givesMem_respond h) h) h
  | dNext => exact ((nextValue_givesMem h).ifActive h).unlessFaulted h
  | dHint => exact ((givesMem_respond h).ifActive h).unlessFaulted h
  | sLdTag idx | sLdDisc idx | sLdO16 idx | sLdO32 idx | sLdO64 idx =>
    exact (loadElement_givesMem _ idx h).unlessFaulted h
  | sLenTag | sLenDisc | sLenO16 | sLenO32 | sLenO64 => exact (givesMem_respond h).unlessFaulted h
  | sAppTag | sAppDisc | sAppO16 | sAppO32 | sAppO64 => cases hi
  | sRd n => exact execSRd_givesMem n h

end

/-! ### A stored delta -/

theorem toNat_lowBits {w : Nat} {d : U64} (h : d.toNat < 2 ^ w) : (lowBits w d).toNat = d.toNat := by
  rw [lowBits, BitVec.toNat_setWidth, Nat.mod_eq_of_lt h]

/-- The tag of a direct delta is not the zero tag of an overflow (44_compressor.md R201). -/
theorem lowBits_8_ne_zero {d : U64} (hlow : 1 ≤ d.toNat) (hhigh : d.toNat ≤ 255) : lowBits 8 d ≠ 0#8 := by
  intro hzero
  have htag := toNat_lowBits (w := 8) (d := d) (by omega)
  rw [hzero] at htag
  simp at htag
  omega

/-- The streams after a delta of each tier. -/
theorem Memory.store_direct (m : Memory) {d : U64} (h : tierOf d = .direct) :
    m.store d = { m with tag := m.tag ++ [lowBits 8 d] } := by
  simp [Memory.store, h, Tier.overflow, Memory.append]

theorem Memory.store_w16 (m : Memory) {d : U64} (h : tierOf d = .w16) :
    m.store d = { m with tag := m.tag ++ [0#8], disc := m.disc ++ [0#2], o16 := m.o16 ++ [lowBits 16 d] } := by
  simp [Memory.store, h, Tier.overflow, Memory.append, lowBits]

theorem Memory.store_w32 (m : Memory) {d : U64} (h : tierOf d = .w32) :
    m.store d = { m with tag := m.tag ++ [0#8], disc := m.disc ++ [1#2], o32 := m.o32 ++ [lowBits 32 d] } := by
  simp [Memory.store, h, Tier.overflow, Memory.append, lowBits]

theorem Memory.store_w64 (m : Memory) {d : U64} (h : tierOf d = .w64) :
    m.store d = { m with tag := m.tag ++ [0#8], disc := m.disc ++ [2#2], o64 := m.o64 ++ [d] } := by
  simp [Memory.store, h, Tier.overflow, Memory.append, lowBits]

/-- A direct delta adds no zero tag; an overflow delta adds one of each of the three (10_state.md R31). -/
theorem Memory.consistent.store {m : Memory} (h : m.consistent) (d : U64) : (m.store d).consistent := by
  obtain ⟨htag, hdisc, h16, h32, h64, hreserved⟩ := h
  obtain ⟨htier, hlow, hhigh⟩ | ⟨htier, -⟩ | ⟨htier, -⟩ | ⟨htier, -⟩ := tierOf_cases d
  · rw [Memory.store_direct m htier]
    have hne := lowBits_8_ne_zero hlow hhigh
    exact ⟨by simpa [List.count_append, List.count_singleton, hne] using htag, hdisc, h16, h32, h64,
      hreserved⟩
  · rw [Memory.store_w16 m htier]
    simp [Memory.consistent, List.count_append]
    omega
  · rw [Memory.store_w32 m htier]
    simp [Memory.consistent, List.count_append]
    omega
  · rw [Memory.store_w64 m htier]
    simp [Memory.consistent, List.count_append]
    omega

theorem all_append_singleton {α : Type} {p : α → Bool} {l : List α} {a : α} (hl : l.all p = true)
    (ha : p a = true) : (l ++ [a]).all p = true := by
  simp only [List.all_append, hl, List.all_cons, ha, List.all_nil, Bool.and_self]

/-- Each tier's elements are in the tier's range (44_compressor.md R207). -/
theorem Memory.compressorMade.store {m : Memory} (h : m.compressorMade) (d : U64) :
    (m.store d).compressorMade := by
  obtain ⟨h16, h32, h64⟩ := h
  obtain ⟨htier, -⟩ | ⟨htier, hrange, hlt⟩ | ⟨htier, hge, hlt⟩ | ⟨htier, hge⟩ := tierOf_cases d
  · rw [Memory.store_direct m htier]
    exact ⟨h16, h32, h64⟩
  · rw [Memory.store_w16 m htier]
    have helement : lowBits 16 d = 0#16 ∨ 256 ≤ (lowBits 16 d).toNat := by
      rw [toNat_lowBits hlt]
      exact hrange.imp_left fun hzero => BitVec.eq_of_toNat_eq ((toNat_lowBits hlt).trans hzero)
    exact ⟨all_append_singleton h16 (decide_eq_true helement), h32, h64⟩
  · rw [Memory.store_w32 m htier]
    have helement : 2 ^ 16 ≤ (lowBits 32 d).toNat := by rwa [toNat_lowBits hlt]
    exact ⟨h16, all_append_singleton h32 (decide_eq_true helement), h64⟩
  · rw [Memory.store_w64 m htier]
    exact ⟨h16, h32, all_append_singleton h64 (decide_eq_true hge)⟩

/-- Settles O46: both properties hold of the empty streams and pass through the store of a delta. -/
theorem streamInvariantKept : Obligations.StreamInvariantKept := by
  intro s t i hi hexec
  exact ⟨fun h => exec_givesMem hi h (by decide) h.store t hexec,
    fun h => exec_givesMem hi h (by decide) h.store t hexec⟩

end Sys2Proof.Machine
end

section
/-! PROOFS. Runs of commands (45_decompressor.md R223, R226, 46_streams_sysreg.md R245). A command's effect does
not depend on what follows it on the channel, so commands are chained on the state alone; a sealed form is
followed through its remaining elements, of which every D.NEXT takes the next delta. -/

namespace Sys2Proof.Machine

/-! ### Commands one after the other -/

/-- `s` with these events to come. -/
def State.onChannel (s : State) (l : List Input) : State := { s with inputs := l }

/-- The command takes `s` to `u`, whatever follows it on the channel. -/
def Executes (i : Instr) (s u : State) : Prop := ∀ l, exec i (s.onChannel l) = .next (u.onChannel l)

/-- The commands take `s` to `t`, one after the other. -/
inductive Runs : List Instr → State → State → Prop
  | nil (s : State) : Runs [] s s
  | cons {i : Instr} {is : List Instr} {s u t : State} : Executes i s u → Runs is u t → Runs (i :: is) s t

theorem Runs.single {i : Instr} {s u : State} (h : Executes i s u) : Runs [i] s u := .cons h (.nil u)

theorem Runs.append {is js : List Instr} {s u t : State} (h : Runs is s u) (h' : Runs js u t) :
    Runs (is ++ js) s t := by
  induction h with
  | nil => exact h'
  | cons hi _ ih => exact .cons hi (ih h')

/-- The words of the commands are taken off the channel and decode to the commands again. -/
theorem Runs.run_issue {is : List Instr} {s t : State} (h : Runs is s t) {n : Nat}
    (hn : n = is.length := by simp) : core.run n (s.issue is) = .next (t.onChannel []) := by
  subst hn
  induction h with
  | nil => rfl
  | @cons i is s u t hi _ ih =>
    have hstep : core.step (s.issue (i :: is)) = .next (u.issue is) := by
      change step (s.issue (i :: is)) = _
      rw [step_of_command (s := s.issue (i :: is)) rfl, State.runWord_of_decode_ok (decode_encode i)]
      exact hi _
    simp only [List.length_cons, Host.Core.run, hstep, ih]

/-- The response (OK, 0). -/
abbrev okZero : ResponseWord := 0#4 ++ 0#64

/-! ### Restoring a saved form (46_streams_sysreg.md R245) -/

section
variable {s : State}

theorem executes_kNew (h : s.faulted = false) : Executes .kNew s (s.newCompressor.answer .ok 0#64) :=
  fun l => exec_kNew (s := s.onChannel l) h

theorem executes_kDone (h : s.faulted = false) (hphase : s.phase = .opened) :
    Executes .kDone s (s.sealPhase.answer .ok 0#64) :=
  fun l => exec_kDone_of_opened (s := s.onChannel l) h hphase

/-- `s` with the streams `m` after `n` commands were answered (OK, 0). -/
def State.stored (s : State) (m : Memory) (n : Nat) : State :=
  { s with mem := m, responses := s.responses ++ List.replicate n okZero }

/-- One more command answered (OK, 0). -/
theorem State.stored_succ (s : State) (m m' : Memory) (n : Nat) :
    ({ s.stored m n with mem := m' } : State).answer .ok 0#64 = s.stored m' (n + 1) := by
  simp only [State.stored, State.answer, List.replicate_succ', ← List.append_assoc]
  rfl

/-- The elements of a list through S.APP, in index order. -/
theorem runs_appends {w : Nat} {st : Stream} {mk : BitVec w → Instr}
    (hmk : ∀ v s, exec (mk v) s = unlessFaulted (ifOpen (appendElement st (zext64 v) s) s) s)
    (hfaulted : s.faulted = false) (hphase : s.phase = .opened) (l : List (BitVec w)) {m m' : Memory}
    (hm' : l.foldl (fun m v => m.append st (zext64 v)) m = m') (n : Nat)
    (hroom : m.len st + l.length ≤ (s.caps.get st).toNat) :
    Runs (l.map mk) (s.stored m n) (s.stored m' (n + l.length)) := by
  induction l generalizing m n with
  | nil =>
    obtain rfl : m = m' := hm'
    exact .nil _
  | cons v l ih =>
    rw [List.length_cons] at hroom
    have happend : Executes (mk v) (s.stored m n) (s.stored (m.append st (zext64 v)) (n + 1)) := by
      intro c
      let u := (s.stored m n).onChannel c
      have hlt : u.mem.len st < (u.caps.get st).toNat := show m.len st < (s.caps.get st).toNat by omega
      rw [hmk, unlessFaulted_ifOpen_of_opened (s := u) hfaulted hphase, appendElement_of_room hlt,
        ← State.stored_succ s m]
      rfl
    have hrest := ih hm' (n + 1) (by simp; omega)
    rw [List.length_cons, Nat.add_comm l.length, ← Nat.add_assoc]
    exact .cons happend hrest

end

/-- The elements of a list appended one by one are the list appended. -/
theorem Memory.foldl_append_zext64 :
    (∀ (l : List U8) (m : Memory),
      l.foldl (fun m v => m.append .tag (zext64 v)) m = { m with tag := m.tag ++ l }) ∧
    (∀ (l : List (BitVec 2)) (m : Memory),
      l.foldl (fun m v => m.append .disc (zext64 v)) m = { m with disc := m.disc ++ l }) ∧
    (∀ (l : List U16) (m : Memory),
      l.foldl (fun m v => m.append .o16 (zext64 v)) m = { m with o16 := m.o16 ++ l }) ∧
    (∀ (l : List U32) (m : Memory),
      l.foldl (fun m v => m.append .o32 (zext64 v)) m = { m with o32 := m.o32 ++ l }) ∧
    (∀ (l : List U64) (m : Memory),
      l.foldl (fun m v => m.append .o64 (zext64 v)) m = { m with o64 := m.o64 ++ l }) := by
  refine ⟨?_, ?_, ?_, ?_, ?_⟩
  all_goals
    intro l
    induction l with
    | nil => simp
    | cons v l ih =>
      intro m
      rw [List.foldl_cons, ih]
      simp [Memory.append, lowBits_zext64]

/-- Settles O58: each array fills its own empty stream, and K.DONE seals what they make. -/
theorem restoreRebuildsStreams : Obligations.RestoreRebuildsStreams := by
  intro s saved hfaulted hwf
  have hroom := (Memory.wf_iff _ _).1 hwf
  obtain ⟨htag, hdisc, h16, h32, h64⟩ := Memory.foldl_append_zext64
  let b := s.newCompressor
  have empties {st : Stream} {m : Memory} (hempty : m.len st = 0) :
      m.len st + saved.len st ≤ (b.caps.get st).toNat := by
    rw [hempty, Nat.zero_add]
    exact hroom st
  have hnew : Runs [.kNew] s (b.stored ⟨[], [], [], [], []⟩ 1) := .single (executes_kNew hfaulted)
  have h1 := runs_appends (s := b) (st := .tag) (mk := .sAppTag) (fun _ _ => rfl) hfaulted rfl saved.tag
    (m' := ⟨saved.tag, [], [], [], []⟩) (htag _ ⟨[], [], [], [], []⟩) 1 (empties rfl)
  have h2 := runs_appends (s := b) (st := .disc) (mk := .sAppDisc) (fun _ _ => rfl) hfaulted rfl saved.disc
    (m' := ⟨saved.tag, saved.disc, [], [], []⟩) (hdisc _ ⟨saved.tag, [], [], [], []⟩)
    (1 + saved.tag.length) (empties rfl)
  have h3 := runs_appends (s := b) (st := .o16) (mk := .sAppO16) (fun _ _ => rfl) hfaulted rfl saved.o16
    (m' := ⟨saved.tag, saved.disc, saved.o16, [], []⟩) (h16 _ ⟨saved.tag, saved.disc, [], [], []⟩)
    (1 + saved.tag.length + saved.disc.length) (empties rfl)
  have h4 := runs_appends (s := b) (st := .o32) (mk := .sAppO32) (fun _ _ => rfl) hfaulted rfl saved.o32
    (m' := ⟨saved.tag, saved.disc, saved.o16, saved.o32, []⟩)
    (h32 _ ⟨saved.tag, saved.disc, saved.o16, [], []⟩)
    (1 + saved.tag.length + saved.disc.length + saved.o16.length) (empties rfl)
  have h5 := runs_appends (s := b) (st := .o64) (mk := .sAppO64) (fun _ _ => rfl) hfaulted rfl saved.o64
    (m' := saved) (h64 _ ⟨saved.tag, saved.disc, saved.o16, saved.o32, []⟩)
    (1 + saved.tag.length + saved.disc.length + saved.o16.length + saved.o32.length) (empties rfl)
  have hall := (((((hnew.append h1).append h2).append h3).append h4).append h5).append
    (.single (executes_kDone hfaulted rfl))
  refine ⟨_, hall.run_issue (by simp; omega), rfl, rfl, rfl, rfl, ?_⟩
  have hcount : saved.tag.length + saved.disc.length + saved.o16.length + saved.o32.length +
      saved.o64.length + 2 = 1 + saved.tag.length + saved.disc.length + saved.o16.length +
      saved.o32.length + saved.o64.length + 1 := by omega
  rw [hcount, List.replicate_succ', ← List.append_assoc]
  rfl

end Sys2Proof.Machine
end

section
/-! PROOFS. The round trip of the codec (45_decompressor.md R223, R226). A form is followed through the elements
still ahead of the cursors: every D.NEXT takes the next delta from their heads. A consistent form has one
ahead of every tag, and a pushed form the pushed delta. -/

namespace Sys2Proof.Machine

/-! ### What is ahead of the cursors -/

/-- The elements that the decompressor has still to read. -/
def State.ahead (s : State) : Memory :=
  { tag := s.mem.tag.drop s.dTp.toNat, disc := s.mem.disc.drop s.dDp.toNat,
    o16 := s.mem.o16.drop s.dP16.toNat, o32 := s.mem.o32.drop s.dP32.toNat,
    o64 := s.mem.o64.drop s.dP64.toNat }

/-- The memory without the first element of a stream. -/
def Memory.dropHead (m : Memory) : Stream → Memory
  | .tag => { m with tag := m.tag.tail }
  | .disc => { m with disc := m.disc.tail }
  | .o16 => { m with o16 := m.o16.tail }
  | .o32 => { m with o32 := m.o32.tail }
  | .o64 => { m with o64 := m.o64.tail }

/-- A cursor finds the first of the elements ahead. -/
theorem State.readAtCursor_eq_ahead (s : State) (st : Stream) :
    s.readAtCursor st = s.ahead.read st 0 := by
  cases st <;> simp [State.readAtCursor, Memory.read, State.cursor, State.ahead]

/-- A cursor that moves on leaves that element behind. -/
theorem State.ahead_advance {s : State} {st : Stream}
    (h : (s.cursor st + 1#33).toNat = (s.cursor st).toNat + 1) :
    (s.advance st).ahead = s.ahead.dropHead st := by
  cases st <;> simp only [State.cursor] at h <;>
    simp only [State.ahead, State.advance, Memory.dropHead, h, List.tail_drop]

/-- The delta `d` is the next in `m`, and `m'` is what is left (45_decompressor.md R222). -/
inductive Memory.Yields (m : Memory) : U64 → Memory → Prop
  | direct {d : U64} : m.read .tag 0 = some d → d ≠ 0#64 → m.Yields d (m.dropHead .tag)
  | overflow {w d : U64} {st : Stream} : m.read .tag 0 = some 0#64 → m.read .disc 0 = some w →
      overflowOf w = some st → m.read st 0 = some d →
      m.Yields d (((m.dropHead .tag).dropHead .disc).dropHead st)

/-- `m` yields exactly these deltas. -/
inductive Memory.YieldsAll : Memory → List U64 → Prop
  | nil {m : Memory} : m.tag = [] → m.YieldsAll []
  | cons {m m' : Memory} {d : U64} {ds : List U64} : m.Yields d m' → m'.YieldsAll ds → m.YieldsAll (d :: ds)

/-! ### D.NEXT over what is ahead -/

/-- An active decompressor over streams within the bounds of 00_scope.md R6. -/
structure State.Decoding (s : State) : Prop where
  notFaulted : s.faulted = false
  active : s.dAct = true
  len_le : ∀ st, s.mem.len st ≤ 2 ^ 32

/-- D.NEXT takes the delta that is next (45_decompressor.md R222). -/
theorem State.Decoding.exists_executes_dNext {s : State} (h : s.Decoding) {d : U64} {m' : Memory}
    (hyields : s.ahead.Yields d m') :
    ∃ u, Executes .dNext s u ∧ u.Decoding ∧ u.ahead = m' ∧ u.dCur = s.dCur + d ∧
      u.responses = s.responses ++ [0#4 ++ (s.dCur + d)] := by
  obtain ⟨hfaulted, hact, hlen⟩ := id h
  have hsucc {s' : State} {st : Stream} {v : U64} (hmem : s'.mem = s.mem)
      (hread : s'.readAtCursor st = some v) :
      (s'.cursor st + 1#33).toNat = (s'.cursor st).toNat + 1 :=
    State.toNat_cursor_succ (by rw [hmem]; exact hlen st) hread
  cases hyields with
  | direct htag hne =>
    rw [← State.readAtCursor_eq_ahead] at htag
    refine ⟨((s.addDelta d).advance .tag).answer .ok (s.dCur + d), fun l => ?_,
      ⟨hfaulted, hact, hlen⟩, State.ahead_advance (s := s.addDelta d) (hsucc rfl htag), rfl, rfl⟩
    rw [exec_dNext_of_active (s := s.onChannel l) hfaulted hact,
      nextValue_of_direct (s := s.onChannel l) htag hne]
    rfl
  | @overflow w d st htag hdisc hstream hdelta =>
    rw [← State.readAtCursor_eq_ahead] at htag hdisc hdelta
    obtain ⟨hne, hne'⟩ := ne_of_overflowOf hstream
    let s1 := (s.addDelta d).advance .tag
    let s2 := s1.advance .disc
    have hdisc1 : s1.readAtCursor .disc = some w :=
      ((s.addDelta d).readAtCursor_advance_of_ne (by decide)).trans hdisc
    have hdelta2 : s2.readAtCursor st = some d := by
      rw [State.readAtCursor_advance_of_ne _ hne', State.readAtCursor_advance_of_ne _ hne]
      exact hdelta
    have hahead : (s2.advance st).ahead = ((s.ahead.dropHead .tag).dropHead .disc).dropHead st := by
      rw [State.ahead_advance (hsucc (s' := s2) rfl hdelta2),
        State.ahead_advance (hsucc (s' := s1) rfl hdisc1),
        State.ahead_advance (s := s.addDelta d) (hsucc rfl htag)]
      rfl
    have hdecoding : ((s2.advance st).answer .ok (s.dCur + d)).Decoding :=
      ⟨by simpa [s2, s1] using hfaulted, by simpa [s2, s1] using hact, by simpa [s2, s1] using hlen⟩
    refine ⟨_, fun l => ?_, hdecoding, hahead, by simp [s2, s1], by simp [s2, s1]; rfl⟩
    rw [exec_dNext_of_active (s := s.onChannel l) hfaulted hact,
      nextValue_of_overflow (s := s.onChannel l) htag hdisc hstream hdelta]
    cases st <;> rfl

/-- With no tag ahead the sequence has ended (45_decompressor.md R223). -/
theorem State.Decoding.executes_dNext_end {s : State} (h : s.Decoding) (htag : s.ahead.tag = []) :
    Executes .dNext s (s.answer .endSeq 0#64) := by
  obtain ⟨hfaulted, hact, -⟩ := h
  have hnone : s.readAtCursor .tag = none := by
    rw [State.readAtCursor_eq_ahead]
    simp [Memory.read, htag]
  intro l
  rw [exec_dNext_of_active (s := s.onChannel l) hfaulted hact, nextValue_of_end (s := s.onChannel l) hnone]
  rfl

/-- The values that deltas add up to, from `cur` on (45_decompressor.md R222). -/
def sumsFrom : U64 → List U64 → List U64
  | _, [] => []
  | cur, d :: ds => (cur + d) :: sumsFrom (cur + d) ds

theorem length_sumsFrom (cur : U64) (ds : List U64) : (sumsFrom cur ds).length = ds.length := by
  induction ds generalizing cur with
  | nil => rfl
  | cons d ds ih => simp [sumsFrom, ih]

/-- The deltas of a sequence add up to the sequence (45_decompressor.md R226). -/
theorem sumsFrom_deltasFrom (cur : U64) (vs : List U64) : sumsFrom cur (deltasFrom cur vs) = vs := by
  induction vs generalizing cur with
  | nil => rfl
  | cons v vs ih => simp [deltasFrom, sumsFrom, add_sub_cancel, ih]

/-- D.NEXT once more than there are deltas ahead: all the values in order, then END. -/
theorem Memory.YieldsAll.exists_runs_dNext {m : Memory} {ds : List U64} (h : m.YieldsAll ds) {s : State}
    (hs : s.Decoding) (hahead : s.ahead = m) :
    ∃ t, Runs (List.replicate (ds.length + 1) .dNext) s t ∧ t.dAct = true ∧
      t.responses = s.responses ++ (sumsFrom s.dCur ds).map (fun v => 0#4 ++ v) ++ [1#4 ++ 0#64] := by
  induction h generalizing s with
  | nil htag =>
    exact ⟨_, .single (hs.executes_dNext_end (hahead ▸ htag)), hs.active, by simp [sumsFrom]; rfl⟩
  | cons hyields _ ih =>
    subst hahead
    obtain ⟨u, hexec, hu, hrest, hcur, hresponses⟩ := hs.exists_executes_dNext hyields
    obtain ⟨t, hruns, hact, ht⟩ := ih hu hrest
    refine ⟨t, .cons hexec hruns, hact, ?_⟩
    rw [ht, hresponses, hcur]
    simp [sumsFrom]

/-- D.START on a sealed form within bounds, then D.NEXT to the end (45_decompressor.md R221, R223). -/
theorem Memory.YieldsAll.exists_runs_dStart {s : State} {ds : List U64} (h : s.mem.YieldsAll ds)
    (hfaulted : s.faulted = false) (hphase : s.phase = .sealed) (hlen : ∀ st, s.mem.len st ≤ 2 ^ 32) :
    ∃ t, Runs (.dStart :: List.replicate (ds.length + 1) .dNext) s t ∧ t.dAct = true ∧
      t.responses = s.responses ++ [okZero] ++ (sumsFrom 0#64 ds).map (fun v => 0#4 ++ v) ++
        [1#4 ++ 0#64] := by
  let u := s.startDecompressor.answer .ok 0#64
  have hstart : Executes .dStart s u := fun l => exec_dStart_of_sealed (s := s.onChannel l) hfaulted hphase
  obtain ⟨t, hruns, hact, hresponses⟩ := h.exists_runs_dNext (s := u) ⟨hfaulted, rfl, hlen⟩ rfl
  exact ⟨t, .cons hstart hruns, hact, hresponses⟩

/-! ### A consistent form (10_state.md R31) -/

/-- A consistent form has a delta for its first tag, and is consistent without it. -/
theorem Memory.consistent.exists_yields {m : Memory} (h : m.consistent) {a : U8} {as : List U8}
    (htag : m.tag = a :: as) : ∃ d m', m.Yields d m' ∧ m'.consistent ∧ m'.tag = as := by
  obtain ⟨tag, disc, o16, o32, o64⟩ := m
  obtain rfl : tag = a :: as := htag
  obtain ⟨hzero, hdisc, h16, h32, h64, hreserved⟩ := h
  by_cases ha : a = 0#8
  · subst ha
    simp only [List.count_cons_self] at hzero
    obtain ⟨w, ws, rfl⟩ : ∃ w ws, disc = w :: ws := List.exists_cons_of_length_pos (by omega)
    have hcodes : ∀ w : BitVec 2, w = 0#2 ∨ w = 1#2 ∨ w = 2#2 ∨ w = 3#2 := by decide
    simp only [List.length_cons] at hzero hdisc
    obtain rfl | rfl | rfl | rfl := hcodes w
    all_goals simp at h16 h32 h64 hreserved
    · obtain ⟨d, ds, rfl⟩ : ∃ d ds, o16 = d :: ds := List.exists_cons_of_length_pos (by omega)
      simp only [List.length_cons] at hdisc h16
      exact ⟨_, _, .overflow (st := .o16) rfl rfl (by decide) rfl,
        ⟨by simp [dropHead]; omega, by simp [dropHead]; omega, by simp [dropHead]; omega, h32, h64,
          hreserved⟩, rfl⟩
    · obtain ⟨d, ds, rfl⟩ : ∃ d ds, o32 = d :: ds := List.exists_cons_of_length_pos (by omega)
      simp only [List.length_cons] at hdisc h32
      exact ⟨_, _, .overflow (st := .o32) rfl rfl (by decide) rfl,
        ⟨by simp [dropHead]; omega, by simp [dropHead]; omega, h16, by simp [dropHead]; omega, h64,
          hreserved⟩, rfl⟩
    · obtain ⟨d, ds, rfl⟩ : ∃ d ds, o64 = d :: ds := List.exists_cons_of_length_pos (by omega)
      simp only [List.length_cons] at hdisc h64
      exact ⟨_, _, .overflow (st := .o64) rfl rfl (by decide) rfl,
        ⟨by simp [dropHead]; omega, by simp [dropHead]; omega, h16, h32, by simp [dropHead]; omega,
          hreserved⟩, rfl⟩
  · rw [List.count_cons_of_ne ha] at hzero
    exact ⟨_, _, .direct rfl (zext64_ne_zero (by decide) ha), ⟨hzero, hdisc, h16, h32, h64, hreserved⟩, rfl⟩

/-- A consistent form yields one delta for every tag. -/
theorem Memory.consistent.exists_yieldsAll {m : Memory} (h : m.consistent) :
    ∃ ds, m.YieldsAll ds ∧ ds.length = m.tag.length := by
  generalize htag : m.tag = tag
  induction tag generalizing m with
  | nil => exact ⟨[], .nil htag, rfl⟩
  | cons a as ih =>
    obtain ⟨d, m', hyields, hrest, htag'⟩ := h.exists_yields htag
    obtain ⟨ds, hall, hlength⟩ := ih hrest htag'
    exact ⟨d :: ds, .cons hyields hall, by simp [hlength]⟩

/-- Settles O60: a consistent form yields a delta for every tag, and D.NEXT reads them all. -/
theorem consistentFormYieldsAll : Obligations.ConsistentFormYieldsAll := by
  intro s hfaulted hphase hcaps hwf hconsistent
  obtain ⟨ds, hall, hlength⟩ := hconsistent.exists_yieldsAll
  obtain ⟨t, hruns, hact, hresponses⟩ :=
    hall.exists_runs_dStart hfaulted hphase (State.lensOk.len_le ⟨hcaps, hwf⟩)
  rw [hlength] at hruns
  exact ⟨t.onChannel [], sumsFrom 0#64 ds, (length_sumsFrom _ _).trans hlength, hruns.run_issue, hact,
    hresponses⟩

/-! ### The form of a pushed sequence (44_compressor.md R201, R204) -/

/-- The tag of a delta. -/
def tagOf (d : U64) : U8 := if tierOf d = .direct then lowBits 8 d else 0#8

/-- The discriminator of an overflow delta. -/
def discOf (d : U64) : Option (BitVec 2) := (tierOf d).overflow.map fun e => lowBits 2 e.1

/-- The streams of a sequence of deltas. -/
def formOf (ds : List U64) : Memory :=
  { tag := ds.map tagOf
    disc := ds.filterMap discOf
    o16 := (ds.filter fun d => tierOf d == .w16).map (lowBits 16)
    o32 := (ds.filter fun d => tierOf d == .w32).map (lowBits 32)
    o64 := ds.filter fun d => tierOf d == .w64 }

/-- A stored delta is the last of the form. -/
theorem store_formOf (ds : List U64) (d : U64) : (formOf ds).store d = formOf (ds ++ [d]) := by
  obtain ⟨htier, -⟩ | ⟨htier, -⟩ | ⟨htier, -⟩ | ⟨htier, -⟩ := tierOf_cases d
  · rw [Memory.store_direct _ htier]
    simp [formOf, tagOf, discOf, htier, Tier.overflow]
  · rw [Memory.store_w16 _ htier]
    simp [formOf, tagOf, discOf, htier, Tier.overflow, lowBits]
  · rw [Memory.store_w32 _ htier]
    simp [formOf, tagOf, discOf, htier, Tier.overflow, lowBits]
  · rw [Memory.store_w64 _ htier]
    simp [formOf, tagOf, discOf, htier, Tier.overflow, lowBits]

theorem zext64_lowBits {w : Nat} {d : U64} (h : d.toNat < 2 ^ w) : zext64 (lowBits w d) = d := by
  apply BitVec.eq_of_toNat_eq
  rw [zext64, BitVec.toNat_setWidth, toNat_lowBits h, Nat.mod_eq_of_lt d.isLt]

/-- An overflow delta has the heads of three streams: the zero tag, its discriminator and itself. -/
theorem formOf_cons_yields_of_overflow {d w : U64} {ds : List U64} {k : Tier} {st : Stream}
    (htier : tierOf d = k) (hk : k.overflow = some (w, st))
    (hread : (formOf (d :: ds)).read st 0 = some d) : (formOf (d :: ds)).Yields d (formOf ds) := by
  have hne : k ≠ .direct := by
    rintro rfl
    contradiction
  have htag : (formOf (d :: ds)).read .tag 0 = some 0#64 := by
    simp [formOf, Memory.read, tagOf, htier, hne, zext64]
  have hcode : zext64 (lowBits 2 w) = w ∧ overflowOf w = some st := by
    cases k <;> cases hk <;> decide
  have hdisc : (formOf (d :: ds)).read .disc 0 = some w := by
    simp [formOf, Memory.read, discOf, htier, hk, hcode.1]
  have hrest : (((formOf (d :: ds)).dropHead .tag).dropHead .disc).dropHead st = formOf ds := by
    cases k <;> cases hk <;> simp [formOf, Memory.dropHead, discOf, htier, Tier.overflow]
  exact hrest ▸ .overflow htag hdisc hcode.2 hread

/-- A form yields its first delta. -/
theorem formOf_cons_yields (d : U64) (ds : List U64) : (formOf (d :: ds)).Yields d (formOf ds) := by
  obtain ⟨htier, hlow, hhigh⟩ | ⟨htier, -, hlt⟩ | ⟨htier, -, hlt⟩ | ⟨htier, -⟩ := tierOf_cases d
  · have hread : (formOf (d :: ds)).read .tag 0 = some d := by
      simp [formOf, Memory.read, tagOf, htier, zext64_lowBits (w := 8) (show d.toNat < 2 ^ 8 by omega)]
    have hrest : (formOf (d :: ds)).dropHead .tag = formOf ds := by
      simp [formOf, Memory.dropHead, discOf, htier, Tier.overflow]
    have hne : d ≠ 0#64 := by
      rintro rfl
      simp at hlow
    exact hrest ▸ .direct hread hne
  · exact formOf_cons_yields_of_overflow htier rfl (by simp [formOf, Memory.read, htier, zext64_lowBits hlt])
  · exact formOf_cons_yields_of_overflow htier rfl (by simp [formOf, Memory.read, htier, zext64_lowBits hlt])
  · exact formOf_cons_yields_of_overflow htier rfl (by simp [formOf, Memory.read, htier, zext64_64])

theorem formOf_yieldsAll (ds : List U64) : (formOf ds).YieldsAll ds := by
  induction ds with
  | nil => exact .nil rfl
  | cons d ds ih => exact .cons (formOf_cons_yields d ds) ih

/-! ### The capacities of a pushed sequence -/

theorem formOf_append_len (ds ds' : List U64) (st : Stream) :
    (formOf (ds ++ ds')).len st = (formOf ds).len st + (formOf ds').len st := by
  cases st <;> simp [formOf, Memory.len]

/-- What fits, fits delta by delta. -/
theorem formOf_wf_of_append {c : Caps} {ds ds' : List U64} (h : (formOf (ds ++ ds')).wf c = true) :
    (formOf ds).wf c = true := by
  rw [Memory.wf_iff] at h ⊢
  intro st
  have := h st
  rw [formOf_append_len] at this
  omega

/-- One discriminator for every overflow delta (44_compressor.md R204). -/
theorem length_filterMap_discOf (ds : List U64) :
    (ds.filterMap discOf).length = tierCount ds .w16 + tierCount ds .w32 + tierCount ds .w64 := by
  induction ds with
  | nil => rfl
  | cons d ds ih =>
    simp only [tierCount] at ih
    cases htier : tierOf d <;> simp [discOf, htier, Tier.overflow, tierCount, ih] <;> omega

theorem length_deltasFrom (cur : U64) (vs : List U64) : (deltasFrom cur vs).length = vs.length := by
  induction vs generalizing cur with
  | nil => rfl
  | cons v vs ih => simp [deltasFrom, ih]

/-- A sequence that fits has a form within the capacities (45_decompressor.md R226). -/
theorem formOf_wf_of_capsFit {c : Caps} {vs : List U64} (h : capsFit c vs) :
    (formOf (deltasFrom 0#64 vs)).wf c = true := by
  obtain ⟨htag, hdisc, h16, h32, h64⟩ := h
  rw [tierCount, List.countP_eq_length_filter] at h16 h32 h64
  rw [Memory.wf_iff]
  intro st
  cases st with
  | tag => simpa [formOf, Memory.len, Caps.get, length_deltasFrom] using htag
  | disc => simpa only [formOf, Memory.len, Caps.get, length_filterMap_discOf] using hdisc
  | o16 => simpa [formOf, Memory.len, Caps.get] using h16
  | o32 => simpa [formOf, Memory.len, Caps.get] using h32
  | o64 => exact h64

/-! ### Pushing a sequence -/

/-- `s` after a K.PUSH that stored its delta. -/
def State.pushed (s : State) (v : U64) : State :=
  ({ s with mem := s.mem.store (v - s.kCur) } : State).setKCur v |>.answer .ok 0#64

/-- A K.PUSH whose delta fits stores it (44_compressor.md R204). -/
theorem executes_kPush {s : State} {v : U64} (h : s.faulted = false) (hphase : s.phase = .opened)
    (hwf : (s.mem.store (v - s.kCur)).wf s.caps = true) : Executes (.kPush v) s (s.pushed v) := by
  intro l
  let s' := s.onChannel l
  have hlens := (Memory.wf_iff _ _).1 hwf
  have room {st : Stream} (hlt : s.mem.len st < (s.mem.store (v - s.kCur)).len st) :
      s'.isFull st = false :=
    (s'.isFull_eq_false_iff st).2 (hlt.trans_le (hlens st))
  cases htier : (tierOf (v - s.kCur)).overflow with
  | none =>
    rw [exec_kPush_direct (s := s') h hphase htier (room (by simp [Memory.store, htier]))]
    simp only [State.pushed, Memory.store, htier]
    rfl
  | some e =>
    obtain ⟨w, st⟩ := e
    rw [exec_kPush_overflow (s := s') h hphase htier (room (by simp [Memory.store, htier]; omega))
      (room (by simp [Memory.store, htier]; omega)) (room (by simp [Memory.store, htier]; omega))]
    simp only [State.pushed, Memory.store, htier]
    rfl

/-- The pushes of a sequence that fits append its deltas to the form. -/
theorem exists_runs_pushes (vs : List U64) {s : State} {ds : List U64} (h : s.faulted = false)
    (hphase : s.phase = .opened) (hmem : s.mem = formOf ds)
    (hwf : (formOf (ds ++ deltasFrom s.kCur vs)).wf s.caps = true) :
    ∃ t, Runs (vs.map .kPush) s t ∧ t.faulted = false ∧ t.phase = .opened ∧
      t.mem = formOf (ds ++ deltasFrom s.kCur vs) ∧
      t.responses = s.responses ++ List.replicate vs.length okZero := by
  induction vs generalizing s ds with
  | nil => exact ⟨s, .nil s, h, hphase, by simpa [deltasFrom] using hmem, by simp⟩
  | cons v vs ih =>
    have hsplit : ds ++ deltasFrom s.kCur (v :: vs) = (ds ++ [v - s.kCur]) ++ deltasFrom v vs := by
      simp [deltasFrom]
    rw [hsplit] at hwf ⊢
    have hstore : s.mem.store (v - s.kCur) = formOf (ds ++ [v - s.kCur]) := by rw [hmem, store_formOf]
    have hpush : Executes (.kPush v) s (s.pushed v) :=
      executes_kPush h hphase (hstore ▸ formOf_wf_of_append hwf)
    obtain ⟨t, hruns, hfaulted, hopened, htmem, hresponses⟩ := ih (s := s.pushed v) h hphase hstore hwf
    refine ⟨t, .cons hpush hruns, hfaulted, hopened, htmem, ?_⟩
    rw [hresponses, List.length_cons, List.replicate_succ, List.append_cons]
    rfl

/-- Settles O59: the pushes make the form of the deltas, and D.NEXT reads the deltas back from it. -/
theorem codecRoundTrip : Obligations.CodecRoundTrip := by
  intro s vs hfaulted hcaps hfit
  have hwf := formOf_wf_of_capsFit hfit
  let ds := deltasFrom 0#64 vs
  have hnew := Runs.single (executes_kNew hfaulted)
  obtain ⟨u, hpushes, hufaulted, hphase, hmem, hresponses⟩ :=
    exists_runs_pushes vs (s := s.newCompressor.answer .ok 0#64) (ds := []) hfaulted rfl rfl hwf
  have hdone := Runs.single (executes_kDone hufaulted hphase)
  have hyields : u.mem.YieldsAll ds := hmem ▸ formOf_yieldsAll ds
  have hlen : ∀ st, u.mem.len st ≤ 2 ^ 32 :=
    hmem ▸ State.lensOk.len_le (s := { s with mem := formOf ds }) ⟨hcaps, hwf⟩
  obtain ⟨t, hreads, -, htresponses⟩ := Memory.YieldsAll.exists_runs_dStart
    (s := u.sealPhase.answer .ok 0#64) hyields hufaulted rfl hlen
  have hu : u.responses = s.responses ++ [okZero] ++ List.replicate vs.length okZero := hresponses
  have ht : t.responses = u.responses ++ [okZero] ++ [okZero] ++ vs.map (fun v => 0#4 ++ v) ++
      [1#4 ++ 0#64] := by
    rw [htresponses, sumsFrom_deltasFrom]
    rfl
  have hcount : List.replicate (vs.length + 3) okZero =
      [okZero] ++ List.replicate vs.length okZero ++ [okZero] ++ [okZero] := by
    rw [List.replicate_succ', List.replicate_succ', List.replicate_succ]
    rfl
  refine ⟨t.onChannel [], Runs.run_issue (t := t) ?_ (by simp; omega), rfl, ?_⟩
  · simpa [ds, length_deltasFrom] using ((hnew.append hpushes).append hdone).append hreads
  · change t.responses = s.responses ++ List.replicate (vs.length + 3) okZero ++ _ ++ _
    rw [ht, hu, hcount]
    simp only [List.append_assoc]

end Sys2Proof.Machine
end
